-- ==== Sys2Proof/Word.lean ====
section
/-!
DEFINITION. The value types of the block (spec/00_scope.md R12) and the words its operations are written in
(spec/30_encoding.md R81, R82, R83).
-/

namespace Sys2Proof

/-- A byte: the one width of every data access (20_memory.md R61, R67). -/
abbrev Byte := BitVec 8

/-- A 14-bit VRAM address; its arithmetic wraps modulo 16384 (10_state.md R38). -/
abbrev VramAddr := BitVec 14

/-- One issued operation, as the word the spec writes it in. The format is part of the operation: the
hardware tells the operations apart by port and direction, not by bits (30_encoding.md R81). The `register`
format is the opcode table's "control word … with code 2" (DESIGN CHOICE, log 2). -/
inductive OpWord where
  /-- A host word `ooo dddddddd` (30_encoding.md R81). -/
  | host (w : BitVec 11)
  /-- A control word `cw = {second, first}` (R83): the two control writes of one command. -/
  | control (w : BitVec 16)
  /-- A control word with code 2, read as a write of one register (R86, R87). -/
  | register (w : BitVec 16)
  /-- A video word `vv lllllllll hhhhhhhh` (R82). -/
  | video (w : BitVec 19)
deriving DecidableEq, Repr

end Sys2Proof
end

