-- ==== Sys2Proof/Syntax.lean ====
section
/-!
DEFINITION. The operations of the block, one constructor per row of spec/opcode_table.json
(spec/30_encoding.md R97). "In this spec each such operation takes the place of an 'instruction' of an ISA"
(spec/00_scope.md R2).
-/

namespace Sys2Proof

/-- One operation. Host operations and commands carry their bytes and fields; `x` is the two bits `cw[13:12]`
of a register command, which select no register but stay in the address (30_encoding.md R86). -/
inductive Instr where
  /-- `RD`: `readData()` (R100). -/
  | rd
  /-- `RS`: `readStatus()` (R101). -/
  | rs
  /-- `WD d`: `writeData(d)` (R102). -/
  | wd (d : Byte)
  /-- `WC.lo d`: `writeControl(d)`, first byte of a pair (R103). -/
  | wcLo (d : Byte)
  /-- `WC.hi d`: `writeControl(d)`, second byte of a pair (R104). -/
  | wcHi (d : Byte)
  /-- `RV`: `vcounter()` (R142). -/
  | rv
  /-- `RH`: `hcounter()` (R143). -/
  | rh
  /-- `LH`: `hcounterLatch()` (R144). -/
  | lh
  /-- `CMD0.VREAD a`: VRAM read setup (R105). -/
  | vread (a : VramAddr)
  /-- `CMD1.VWRITE a`: VRAM write setup (R106). -/
  | vwrite (a : VramAddr)
  /-- `CMD2.SETREG r, d`: register write (R107). -/
  | setreg (x : BitVec 2) (r : BitVec 4) (d : Byte)
  /-- `CMD3.CWRITE a`: CRAM write setup (R106). -/
  | cwrite (a : VramAddr)
  /-- `REG0`: mode control 1 (R111). -/
  | reg0 (x : BitVec 2) (d : Byte)
  /-- `REG1`: mode control 2 (R112). -/
  | reg1 (x : BitVec 2) (d : Byte)
  /-- `REG2`: name table base (R113). -/
  | reg2 (x : BitVec 2) (d : Byte)
  /-- `REG3`: colour table base (R114). -/
  | reg3 (x : BitVec 2) (d : Byte)
  /-- `REG4`: pattern table base (R115). -/
  | reg4 (x : BitVec 2) (d : Byte)
  /-- `REG5`: sprite attribute table base (R116). -/
  | reg5 (x : BitVec 2) (d : Byte)
  /-- `REG6`: sprite pattern table base (R117). -/
  | reg6 (x : BitVec 2) (d : Byte)
  /-- `REG7`: backdrop colour (R118). -/
  | reg7 (x : BitVec 2) (d : Byte)
  /-- `REG8`: horizontal scroll (R119). -/
  | reg8 (x : BitVec 2) (d : Byte)
  /-- `REG9`: vertical scroll (R120). -/
  | reg9 (x : BitVec 2) (d : Byte)
  /-- `REGA`: line-counter reload, or no register (R121, R122). -/
  | regA (x : BitVec 2) (d : Byte)
  /-- `REGB`: no register (R122). -/
  | regB (x : BitVec 2) (d : Byte)
  /-- `REGC`: no register (R122). -/
  | regC (x : BitVec 2) (d : Byte)
  /-- `REGD`: no register (R122). -/
  | regD (x : BitVec 2) (d : Byte)
  /-- `REGE`: no register (R122). -/
  | regE (x : BitVec 2) (d : Byte)
  /-- `REGF`: no register (R122). -/
  | regF (x : BitVec 2) (d : Byte)
  /-- `TICK`: advance the pixel counter (R140). -/
  | tick
  /-- `EVAL l`: `spriteEvaluate(l)` (R170). -/
  | eval (line : Nat)
  /-- `COMP h, l`: `spriteComposite(h, l)` (R190). -/
  | comp (h : Byte) (line : Nat)
  /-- `RESET` (R240). -/
  | reset
deriving DecidableEq, Repr

end Sys2Proof
end

