-- ==== Sys2Proof/Decode.lean ====
section
/-!
DEFINITION. The decoder, total on every issued word, which rejects by name; then the encoder, written from the
same tables (spec/30_encoding.md R81, R82, R83 to R87); then the reading of a word as spec/opcode_table.json
numbers its bits.

Which half a control write is depends only on the control-port phase (30_encoding.md R94), so the decoder reads
the phase beside the word. Bits the spec marks "ignored, written as 0" are not looked at (log 19).
-/

namespace Sys2Proof

/-- Why a word stands for no operation. -/
inductive DecodeError where
  /-- Host selector `111`: "no operation: refused" (30_encoding.md R81, R93). -/
  | unusedHostSelector
deriving DecidableEq, Repr

/-- A host word `ooo dddddddd` (30_encoding.md R81). -/
def decodeHost (ctrlPhase : Bool) (w : BitVec 11) : Except DecodeError Instr :=
  let d : Byte := w.extractLsb' 0 8
  match (w.extractLsb' 8 3).toNat with
  | 0 => .ok .rd
  | 1 => .ok .rs
  | 2 => .ok (.wd d)
  | 3 => .ok (if ctrlPhase then .wcHi d else .wcLo d)
  | 4 => .ok .rv
  | 5 => .ok .rh
  | 6 => .ok .lh
  | _ => .error .unusedHostSelector

/-- A control word by its access code (30_encoding.md R83, R85). -/
def decodeControl (w : BitVec 16) : Instr :=
  let a : VramAddr := w.extractLsb' 0 14
  match (w.extractLsb' 14 2).toNat with
  | 0 => .vread a
  | 1 => .vwrite a
  | 2 => .setreg (w.extractLsb' 12 2) (w.extractLsb' 8 4) (w.extractLsb' 0 8)
  | _ => .cwrite a

/-- The row of a register index (30_encoding.md R87). -/
def registerInstr (r : BitVec 4) (x : BitVec 2) (d : Byte) : Instr :=
  match r.toNat with
  | 0 => .reg0 x d
  | 1 => .reg1 x d
  | 2 => .reg2 x d
  | 3 => .reg3 x d
  | 4 => .reg4 x d
  | 5 => .reg5 x d
  | 6 => .reg6 x d
  | 7 => .reg7 x d
  | 8 => .reg8 x d
  | 9 => .reg9 x d
  | 10 => .regA x d
  | 11 => .regB x d
  | 12 => .regC x d
  | 13 => .regD x d
  | 14 => .regE x d
  | _ => .regF x d

/-- A control word given in the register format: with code 2 a write of one register (30_encoding.md R86, R87). With
another code it is the command of that code, because every control word is legal (R93; DESIGN CHOICE, log 2: the
format is the model's own). -/
def decodeRegister (w : BitVec 16) : Instr :=
  if w.extractLsb' 14 2 = 2#2 then
    registerInstr (w.extractLsb' 8 4) (w.extractLsb' 12 2) (w.extractLsb' 0 8)
  else decodeControl w

/-- A video word `vv lllllllll hhhhhhhh` (30_encoding.md R82). -/
def decodeVideo (w : BitVec 19) : Instr :=
  match (w.extractLsb' 17 2).toNat with
  | 0 => .tick
  | 1 => .eval (w.extractLsb' 8 9).toNat
  | 2 => .comp (w.extractLsb' 0 8) (w.extractLsb' 8 9).toNat
  | _ => .reset

/-- The operation an issued word stands for, in a control-port phase. -/
def decode (ctrlPhase : Bool) : OpWord → Except DecodeError Instr
  | .host w => decodeHost ctrlPhase w
  | .control w => .ok (decodeControl w)
  | .register w => .ok (decodeRegister w)
  | .video w => .ok (decodeVideo w)

/-- The host word of a selector and a byte (30_encoding.md R81). -/
def hostWord (sel : BitVec 3) (d : Byte) : OpWord := .host (sel ++ d)

/-- The control word of a code and an address (30_encoding.md R83, R85). -/
def controlWord (code : BitVec 2) (a : VramAddr) : BitVec 16 := code ++ a

/-- The control word `10xxrrrrdddddddd` of a register write (30_encoding.md R85, R86). -/
def registerWord (x : BitVec 2) (r : BitVec 4) (d : Byte) : BitVec 16 := 2#2 ++ x ++ r ++ d

/-- The video word of a selector, a line and a horizontal offset (30_encoding.md R82). -/
def videoWord (sel : BitVec 2) (line : Nat) (h : Byte) : OpWord := .video (sel ++ BitVec.ofNat 9 line ++ h)

/-- The word of an operation; ignored bits are 0 (30_encoding.md R81 to R87). -/
def encode : Instr → OpWord
  | .rd => hostWord 0 0
  | .rs => hostWord 1 0
  | .wd d => hostWord 2 d
  | .wcLo d => hostWord 3 d
  | .wcHi d => hostWord 3 d
  | .rv => hostWord 4 0
  | .rh => hostWord 5 0
  | .lh => hostWord 6 0
  | .vread a => .control (controlWord 0 a)
  | .vwrite a => .control (controlWord 1 a)
  | .setreg x r d => .control (registerWord x r d)
  | .cwrite a => .control (controlWord 3 a)
  | .reg0 x d => .register (registerWord x 0 d)
  | .reg1 x d => .register (registerWord x 1 d)
  | .reg2 x d => .register (registerWord x 2 d)
  | .reg3 x d => .register (registerWord x 3 d)
  | .reg4 x d => .register (registerWord x 4 d)
  | .reg5 x d => .register (registerWord x 5 d)
  | .reg6 x d => .register (registerWord x 6 d)
  | .reg7 x d => .register (registerWord x 7 d)
  | .reg8 x d => .register (registerWord x 8 d)
  | .reg9 x d => .register (registerWord x 9 d)
  | .regA x d => .register (registerWord x 10 d)
  | .regB x d => .register (registerWord x 11 d)
  | .regC x d => .register (registerWord x 12 d)
  | .regD x d => .register (registerWord x 13 d)
  | .regE x d => .register (registerWord x 14 d)
  | .regF x d => .register (registerWord x 15 d)
  | .tick => videoWord 0 0 0
  | .eval line => videoWord 1 line 0
  | .comp h line => videoWord 2 line h
  | .reset => videoWord 3 0 0

/-- The phases in which an operation's word stands for it: a control write is a first byte in phase 0 and a
second byte in phase 1 (30_encoding.md R94); every other word reads the same in both. -/
def Instr.readIn (ctrlPhase : Bool) : Instr → Bool
  | .wcLo _ => !ctrlPhase
  | .wcHi _ => ctrlPhase
  | .rd | .rs | .wd _ | .rv | .rh | .lh => true
  | .vread _ | .vwrite _ | .setreg _ _ _ | .cwrite _ => true
  | .reg0 _ _ | .reg1 _ _ | .reg2 _ _ | .reg3 _ _ | .reg4 _ _ | .reg5 _ _ | .reg6 _ _ | .reg7 _ _ => true
  | .reg8 _ _ | .reg9 _ _ | .regA _ _ | .regB _ _ | .regC _ _ | .regD _ _ | .regE _ _ | .regF _ _ => true
  | .tick | .eval _ | .comp _ _ | .reset => true

/-- The issued word that a word of the opcode table is, from the number of bits the table gives its row and the
number its bits make. The table's 11-bit host words and 16-bit control words come in the same whole number of
bytes and overlap; a number below 0x700 is read as a host word, and a control word with code 2 as a write of one
register (DESIGN CHOICE, log 2). -/
def tableWord (nbits w : Nat) : OpWord :=
  if nbits ≤ 11 then .host (BitVec.ofNat 11 w)
  else if nbits ≤ 16 then
    if w < 0x700 then .host (BitVec.ofNat 11 w)
    else if w / 0x4000 = 2 then .register (BitVec.ofNat 16 w)
    else .control (BitVec.ofNat 16 w)
  else .video (BitVec.ofNat 19 w)

/-- The instruction the decoder reads from a word of the opcode table, in the control-port phase after reset. -/
def decodeTableWord (nbits w : Nat) : Option Instr :=
  match decode false (tableWord nbits w) with
  | .ok i => some i
  | .error _ => none

end Sys2Proof
end

