-- ==== Sys2Proof/Machine/Registers.lean ====
section
/-!
DEFINITION. The component records of the block's state (spec/10_state.md R22): the register file, the transient
I/O latches, the status and interrupt flags and the counters. They are also the components of the parameter
`RESET_VALUES` (spec/00_scope.md R9), which is why they stand before the configuration. A u1 field is a `Bool`.
-/

namespace Sys2Proof

/-- The programmable register file (10_state.md section 3, R23 to R36). Widths marked "decision" there are the
spec's own (D5, D6). -/
structure RegFile where
  /-- Register 0 bit 0 (R24). -/
  externalSync : Bool
  /-- The mode selector, bits from registers 0 and 1 (R26). -/
  mode : BitVec 4
  /-- Register 0 bit 3 (R24). -/
  spriteShift : Bool
  /-- Register 0 bit 4 (R24). -/
  lineIrqEnable : Bool
  /-- Register 0 bit 5 (R24). -/
  leftClip : Bool
  /-- Register 0 bit 6 (R24). -/
  hScrollLock : Bool
  /-- Register 0 bit 7 (R24). -/
  vScrollLock : Bool
  /-- Register 1 bit 0 (R25). -/
  spriteZoom : Bool
  /-- Register 1 bit 1 (R25). -/
  spriteSize : Bool
  /-- Register 1 bit 5 (R25). -/
  frameIrqEnable : Bool
  /-- Register 1 bit 6 (R25). -/
  displayEnable : Bool
  /-- Register 2 (R27). -/
  nameTableBase : BitVec 4
  /-- Register 3 (R28). -/
  colorTableBase : Byte
  /-- Register 4 (R29). -/
  patternTableBase : BitVec 3
  /-- Register 5 (R30). -/
  spriteAttrBase : BitVec 7
  /-- Register 6 (R31). -/
  spritePatternBase : BitVec 3
  /-- Register 7 (R32). -/
  backdropColor : BitVec 4
  /-- Register 8 (R33). -/
  hScroll : Byte
  /-- Register 9 (R34). -/
  vScroll : Byte
  /-- Register 0xA, the line-counter reload value (R35). -/
  lineReload : Byte
deriving DecidableEq, Repr

/-- The transient I/O state of the two host ports (10_state.md section 4). -/
structure PortLatches where
  /-- The control-port latch phase: false, the next control write is a low byte; true, a high byte (R37). -/
  ctrlPhase : Bool
  /-- The current VRAM address (R38). -/
  address : VramAddr
  /-- The access code (R39). -/
  code : BitVec 2
  /-- The VRAM read-ahead latch (R40). -/
  readLatch : Byte
  /-- The low control byte held until the second one, only under `CTRL_LOW_IMMEDIATE = false`
  (40_register_protocol.md R103). -/
  ctrlLow : Byte
deriving DecidableEq, Repr

/-- The status and interrupt flags (10_state.md section 5, R41 to R43). -/
structure StatusFlags where
  frameIrqPending : Bool
  lineIrqPending : Bool
  spriteOverflow : Bool
  spriteCollision : Bool
  fifthSprite : BitVec 5
deriving DecidableEq, Repr

/-- The counters (10_state.md section 6, R44 to R46). `hPixel` and `hLatchRaw` are `H_WIDTH` = 16 bits wide
(D24); `vLine` is "at least u9", held as a number (log 15). -/
structure Counters where
  hPixel : BitVec 16
  vLine : Nat
  hLatchRaw : BitVec 16
  lineCounter : Byte
deriving DecidableEq, Repr

end Sys2Proof
end

