-- ==== Sys2Proof/Config.lean ====
section
/-!
DEFINITION. The construction parameters of the block (spec/00_scope.md R9), as one record of plain data, and the
free values: what the spec leaves open with no value, as constants without a body.

The record is a field of the state (DESIGN CHOICE, log 5): the spec packages an instance as one record (R11) and
makes every parameter an argument of the model (R9), so a statement about every state is a statement about every
configuration. No operation changes it.
-/

namespace Sys2Proof

/-- The video region (R4, R10): a closed enumeration. -/
inductive Region where
  | ntscJ | ntscU | pal
deriving DecidableEq, Repr

/-- The target variant's palette RAM size (R3, R10): a closed enumeration. -/
inductive CramSize where
  | entries32 | entries64
deriving DecidableEq, Repr

/-- The display height a mode selects (10_state.md R48). -/
inductive DisplayHeight where
  | h192 | h224 | h240
deriving DecidableEq, Repr

/-- `PATTERN_TRUNC_ON`: the size mode that truncates pattern indices (42_sprite_evaluation.md R175, D14). -/
inductive TruncateOn where
  | size1 | size0
deriving DecidableEq, Repr

/-- `SPRITE_ENGINE_SCOPE` (42_sprite_evaluation.md R179, D18). -/
inductive EngineScope where
  | allModes | legacyOnly
deriving DecidableEq, Repr

/-- `LINE_COUNTER_MODEL` (41_counters.md R152, D27): the step written in R152, or another one, which the spec
leaves open (`Config.otherLineCounter`, log 7). -/
inductive LineCounterModel where
  | countdown
  | other (k : Nat)
deriving DecidableEq, Repr

/-- A row of the V-counter table: the inclusive threshold (`none`: no threshold) and the offset subtracted above
it (41_counters.md R145). -/
structure VCountRow where
  threshold : Option Nat
  offset : Nat
deriving DecidableEq, Repr

/-- The five OPEN rows of `VCOUNT_TABLE`; the NTSC/192 row is normative and is no parameter (41_counters.md R145). -/
structure VCountTable where
  ntsc224 : VCountRow
  ntsc240 : VCountRow
  pal192 : VCountRow
  pal224 : VCountRow
  pal240 : VCountRow
deriving DecidableEq, Repr

/-- `FRAME_IRQ_LINE(h)` for the three heights (41_counters.md R151). -/
structure FrameIrqLines where
  at192 : Nat
  at224 : Nat
  at240 : Nat
deriving DecidableEq, Repr

/-- `RESET_VALUES` (70_reset_and_hazards.md R240, R241). -/
structure ResetValues where
  regs : RegFile
  port : PortLatches
  flags : StatusFlags
  counters : Counters
deriving DecidableEq, Repr

/-- The configuration of one instance (00_scope.md R9). -/
structure Config where
  cramSize : CramSize
  region : Region
  /-- The OPEN rows of `VCOUNT_TABLE`. -/
  vcountTable : VCountTable
  /-- `H_PERIOD`. -/
  hPeriod : Nat
  /-- `V_PERIOD(NTSC_J)` and `V_PERIOD(NTSC_U)`. -/
  vPeriodNtsc : Nat
  /-- `V_PERIOD(PAL)`. -/
  vPeriodPal : Nat
  regAIsLineCounter : Bool
  ctrlLowImmediate : Bool
  dataWriteLoadsLatch : Bool
  spriteSumMod256 : Bool
  patternTruncOn : TruncateOn
  spriteEngineScope : EngineScope
  frameIrqLines : FrameIrqLines
  lineCounterModel : LineCounterModel
  /-- MODEL: which draw of power-up contents the instance's memories have (20_memory.md R79; DESIGN CHOICE, log 10). -/
  powerUpDraw : Nat
  resetValues : ResetValues
deriving DecidableEq, Repr

/-- FREE VALUE: of a draw, the VRAM byte at an address nothing has written (20_memory.md R79; log 10). The spec leaves
open whether two instances power up alike (00_scope.md R11, 60_exceptions.md R223); DESIGN CHOICE: instances of one
draw do, and nothing relates two draws. -/
opaque Config.powerUpVram : Nat → Nat → Byte

/-- FREE VALUE: of a draw, the CRAM entry at an index nothing has written (20_memory.md R79; log 10). As for VRAM,
DESIGN CHOICE: instances of one draw power up alike, and nothing relates two draws. -/
opaque Config.powerUpCram : Nat → Nat → Byte

/-- FREE VALUE: `H_PERIOD - 1` of the machine after reset; the spec gives `H_PERIOD` no value, only the range
1 to 2^16 (41_counters.md R141; log 6). -/
opaque Config.openHPeriodLessOne : BitVec 16

/-- FREE VALUE: the line-counter step of an implementation that does not use the one of 41_counters.md R152: from
the model number, the line counter, the reload value, the raw line and the display height, the new line counter
and whether it underflows (D27; log 7). -/
opaque Config.otherLineCounter : Nat → Byte → Byte → Nat → Nat → Byte × Bool

end Sys2Proof
end

