-- ==== Sys2Proof/Machine/Params.lean ====
section
/-!
DEFINITION. The defaults of the construction parameters (spec/00_scope.md R9, and the conventions of
spec/95_test_vectors.md for `REGION` and `CRAM_SIZE`): the configuration of the machine after reset.
-/

namespace Sys2Proof.Machine

/-- The register file with every field 0 (`RESET_VALUES` default, D29; log 9). -/
def zeroRegs : RegFile :=
  { externalSync := false, mode := 0, spriteShift := false, lineIrqEnable := false, leftClip := false,
    hScrollLock := false, vScrollLock := false, spriteZoom := false, spriteSize := false,
    frameIrqEnable := false, displayEnable := false, nameTableBase := 0, colorTableBase := 0,
    patternTableBase := 0, spriteAttrBase := 0, spritePatternBase := 0, backdropColor := 0, hScroll := 0,
    vScroll := 0, lineReload := 0 }

/-- The port latches at 0 (D29; log 9; `ctrlLow`: log 16). -/
def zeroPort : PortLatches :=
  { ctrlPhase := false, address := 0, code := 0, readLatch := 0, ctrlLow := 0 }

/-- Every status and pending flag 0 (D29; log 9). -/
def zeroFlags : StatusFlags :=
  { frameIrqPending := false, lineIrqPending := false, spriteOverflow := false, spriteCollision := false,
    fifthSprite := 0 }

/-- Every counter 0 (D29, D38; log 9). -/
def zeroCounters : Counters :=
  { hPixel := 0, vLine := 0, hLatchRaw := 0, lineCounter := 0 }

/-- `RESET_VALUES`, default (70_reset_and_hazards.md R240). -/
def defaultResetValues : ResetValues :=
  { regs := zeroRegs, port := zeroPort, flags := zeroFlags, counters := zeroCounters }

/-- The default OPEN rows of `VCOUNT_TABLE` (41_counters.md R145; PRESUMED, log 8). -/
def defaultVCountTable : VCountTable :=
  { ntsc224 := { threshold := some 234, offset := 6 },
    ntsc240 := { threshold := none, offset := 0 },
    pal192 := { threshold := some 242, offset := 57 },
    pal224 := { threshold := some 258, offset := 57 },
    pal240 := { threshold := some 266, offset := 57 } }

/-- The default `FRAME_IRQ_LINE(h) = h + 1` (41_counters.md R151; PRESUMED, log 18). -/
def defaultFrameIrqLines : FrameIrqLines :=
  { at192 := 193, at224 := 225, at240 := 241 }

/-- The default configuration with a given `H_PERIOD`, which has no default (41_counters.md R141). -/
def defaultConfig (hPeriod : Nat) : Config :=
  { cramSize := .entries32, region := .ntscU, vcountTable := defaultVCountTable, hPeriod := hPeriod,
    vPeriodNtsc := 262, vPeriodPal := 313, regAIsLineCounter := true, ctrlLowImmediate := true,
    dataWriteLoadsLatch := false, spriteSumMod256 := true, patternTruncOn := .size1,
    spriteEngineScope := .allModes, frameIrqLines := defaultFrameIrqLines, lineCounterModel := .countdown, powerUpDraw := 0,
    resetValues := defaultResetValues }

/-- `H_PERIOD` of the machine after reset: a free value from 1 to 2^16 (log 6). -/
def openHPeriod : Nat := Config.openHPeriodLessOne.toNat + 1

/-- The configuration of the machine after reset (log 5). -/
def resetConfig : Config := defaultConfig openHPeriod

end Sys2Proof.Machine
end

