-- ==== Sys2Proof/Machine/State.lean ====
section
/-!
DEFINITION. The machine's state as plain data (spec/10_state.md R22, spec/20_memory.md R60, R62), the reasons a
step can stop, and the state after reset (spec/70_reset_and_hazards.md R240).
-/

namespace Sys2Proof.Machine

/-- The block has no fault: "This hardware model has no recoverable-error concept" (60_exceptions.md R210). No
constructor. -/
inductive Fault where
deriving DecidableEq, Repr

/-- The named refusals: "each is a statement that the model gives no meaning, not a behaviour of the chip"
(60_exceptions.md R210). Each is safe: it can only make a claim unprovable. -/
inductive Refusal where
  /-- Raised by `exec`'s arm of an instruction that has no meaning yet. Safe. No arm raises it. -/
  | notModelled (mnemonic : String)
  /-- Raised by `step` for an issued word that stands for no operation (30_encoding.md R93). Safe. -/
  | rejectedWord (why : DecodeError)
  /-- Raised by `EVAL` with a line above 255 (42_sprite_evaluation.md R179a). Safe. -/
  | lineOutOfRange
  /-- Raised by `EVAL` and `COMP` under `SPRITE_ENGINE_SCOPE = legacy_only` while `mode[3] = 1`
  (42_sprite_evaluation.md R179b, 43_sprite_compositing.md R198). Safe. -/
  | mode4Sprites
  /-- Raised by `COMP` for a line that is not the one last evaluated (43_sprite_compositing.md R198). Safe. -/
  | notEvaluated
deriving DecidableEq, Repr

/-- An entry of the sprite working set (10_state.md R47). -/
structure SpriteEntry where
  x : Byte
  y : Byte
  pattern : Byte
  color : BitVec 4
deriving DecidableEq, Repr

/-- The sprite-layer output of one pixel (43_sprite_compositing.md R190, R195). -/
inductive Pixel where
  | transparent
  | color (c : BitVec 4)
deriving DecidableEq, Repr

/-- A memory: the written bytes, by strictly rising address. An unlisted address holds no value of its own; what
it reads as is `Config.powerUpVram` or `Config.powerUpCram` (20_memory.md R79; log 10). -/
abbrev Memory := List Host.Cell

/-- The state of one instance (10_state.md R22; its memories, 20_memory.md R60, R62; its configuration,
00_scope.md R9). The last three fields are the model's own. -/
structure State where
  /-- The construction parameters; changed by no operation. -/
  cfg : Config
  regs : RegFile
  port : PortLatches
  flags : StatusFlags
  counters : Counters
  /-- The sprite working set (R47). -/
  sprites : List SpriteEntry
  /-- The line of the most recent evaluation, or none: the spec's own bookkeeping (R22). -/
  evalLine : Option Nat
  vram : Memory
  cram : Memory
  /-- MODEL: the operations issued and not yet performed, in the total order of 20_memory.md R74 (log 1). -/
  pending : List OpWord
  /-- MODEL: the byte the last host read returned, none before the first (log 11). -/
  returned : Option Byte
  /-- MODEL: the output of the last compositing step, none before the first (log 11). -/
  spriteOut : Option Pixel
deriving DecidableEq, Repr

/-- The machine right after reset: every field at its `RESET_VALUES` entry, the working set empty, `evalLine`
none (70_reset_and_hazards.md R240), nothing written to the memories and nothing issued. -/
def State.reset : State :=
  { cfg := resetConfig
    regs := resetConfig.resetValues.regs
    port := resetConfig.resetValues.port
    flags := resetConfig.resetValues.flags
    counters := resetConfig.resetValues.counters
    sprites := []
    evalLine := none
    vram := []
    cram := []
    pending := []
    returned := none
    spriteOut := none }

end Sys2Proof.Machine
end

