-- ==== Sys2Proof/Machine/Ops.lean ====
section
/-!
DEFINITION. The named operations over memory, the state's records and the queue of issued operations
(spec/20_memory.md R61, R63, R74; spec/10_state.md R38). Every meaning reads and writes the state through them.

Exceptions: the block takes none and returns from none (spec/60_exceptions.md R210, R218, R219), so there is no
such operation here; its whole part in an interrupt is the output `irq` (Flags.lean).
-/

namespace Sys2Proof.Machine

/-- What an instruction's meaning answers. -/
abbrev Result := Host.Outcome State Fault Refusal

/-- The canonical form of a memory: strictly rising addresses. (An unlisted address holds no value, so no entry
can equal it; log 10.) -/
abbrev Memory.wf (m : Memory) : Prop := m.Pairwise (fun c d => c.1 < d.1)

/-- Every listed address lies in a space of `size` bytes. -/
abbrev Memory.within (size : Nat) (m : Memory) : Prop := ∀ c ∈ m, c.1 < size

/-- The byte written last at an address, none where nothing has been written. -/
def readCell : Memory → Nat → Option Byte
  | [], _ => none
  | (k, v) :: rest, a => if a = k then some v else readCell rest a

/-- Write one byte, keeping the canonical form. -/
def writeCell : Memory → Nat → Byte → Memory
  | [], a, v => [(a, v)]
  | (k, w) :: rest, a, v =>
    if a < k then (a, v) :: (k, w) :: rest
    else if a = k then (a, v) :: rest
    else (k, w) :: writeCell rest a v

/-- The number of CRAM entries (20_memory.md R62). -/
def cramEntries : CramSize → Nat
  | .entries32 => 32
  | .entries64 => 64

/-- `MemRead(a, 1)` (20_memory.md R61); a byte nothing has written is the free value of the instance's draw (R79;
which instances share a draw: DESIGN CHOICE, log 10). -/
def vramRead (s : State) (a : VramAddr) : Byte :=
  (readCell s.vram a.toNat).getD (Config.powerUpVram s.cfg.powerUpDraw a.toNat)

/-- The CRAM entry `i` as the presentation layer sees it (20_memory.md R63); the block itself never reads it. An
entry nothing has written is the free value of the instance's draw (R79; DESIGN CHOICE, log 10). -/
def cramRead (s : State) (i : Nat) : Byte :=
  (readCell s.cram i).getD (Config.powerUpCram s.cfg.powerUpDraw i)

/-- Replace the register file. -/
def State.setRegs (s : State) (r : RegFile) : State := { s with regs := r }

/-- Replace the port latches. -/
def State.setPort (s : State) (p : PortLatches) : State := { s with port := p }

/-- Replace the status and interrupt flags. -/
def State.setFlags (s : State) (f : StatusFlags) : State := { s with flags := f }

/-- Replace the counters. -/
def State.setCounters (s : State) (c : Counters) : State := { s with counters := c }

/-- Replace the working set and the line it was evaluated for (42_sprite_evaluation.md R170). -/
def State.setSprites (s : State) (line : Option Nat) (l : List SpriteEntry) : State :=
  { s with sprites := l, evalLine := line }

/-- `MemWrite(a, 1, v)` (20_memory.md R61). -/
def State.writeVram (s : State) (a : VramAddr) (v : Byte) : State :=
  { s with vram := writeCell s.vram a.toNat v }

/-- `CramWrite(i, v)` (20_memory.md R63). -/
def State.writeCram (s : State) (i : Nat) (v : Byte) : State :=
  { s with cram := writeCell s.cram i v }

/-- Return a byte to the host (log 11). -/
def State.returnByte (s : State) (v : Byte) : State := { s with returned := some v }

/-- Hand a pixel to the presentation layer (43_sprite_compositing.md R199; log 11). -/
def State.emit (s : State) (p : Pixel) : State := { s with spriteOut := some p }

/-- Replace the queue of issued operations (log 1). -/
def State.setPending (s : State) (l : List OpWord) : State := { s with pending := l }

/-- Every increment of the VRAM address: `(address + 1) mod 16384` (10_state.md R38). -/
def nextAddress (a : VramAddr) : VramAddr := a + 1

/-- Load the read-ahead latch from VRAM at the address and increment the address: the refill of `readData` and
of the read-setup command (40_register_protocol.md R100, R105). -/
def refill (s : State) : State :=
  s.setPort { s.port with readLatch := vramRead s s.port.address, address := nextAddress s.port.address }

/-- Reset the control-port latch phase (10_state.md R37). -/
def clearPhase (s : State) : State := s.setPort { s.port with ctrlPhase := false }

/-- The next issued operation and the state without it; none while nothing is issued (20_memory.md R74; log 1). -/
def fetchOp (s : State) : Option (OpWord × State) :=
  match s.pending with
  | [] => none
  | w :: rest => some (w, s.setPending rest)

/-- With nothing issued the block waits: "After reset it waits for host operations and video steps"
(70_reset_and_hazards.md R243; log 1). -/
def idle (s : State) : State := s

/-- Issue an operation before all others (log 1). -/
def issueFirst (w : OpWord) (s : State) : State := s.setPending (w :: s.pending)

end Sys2Proof.Machine
end

