-- ==== Sys2Proof/Machine/Operands.lean ====
section
/-!
DEFINITION. Every operand form and derived value of the spec: control-word fields (spec/30_encoding.md R83 to
R86), display height and sprite extent (spec/10_state.md R48, R49), the V- and H-counter views
(spec/41_counters.md R142 to R146), and the sprite geometry (spec/42_sprite_evaluation.md R171 to R175,
spec/43_sprite_compositing.md R191 to R193).
-/

namespace Sys2Proof.Machine

/-- The first byte of a control word, `cw[7:0]` (30_encoding.md R83). -/
def firstByte (cw : BitVec 16) : Byte := cw.extractLsb' 0 8

/-- The second byte of a control word, `cw[15:8]` (30_encoding.md R83). -/
def secondByte (cw : BitVec 16) : Byte := cw.extractLsb' 8 8

/-- The address of a high control byte over a low byte: `{d[5:0], low}` (40_register_protocol.md R104). -/
def composeAddress (d low : Byte) : VramAddr := d.extractLsb' 0 6 ++ low

/-- The access code of a high control byte, `d[7:6]` (40_register_protocol.md R104). -/
def accessCode (d : Byte) : BitVec 2 := d.extractLsb' 6 2

/-- `address[7:0] <- d` (40_register_protocol.md R103). -/
def withLowByte (a : VramAddr) (d : Byte) : VramAddr := a.extractLsb' 8 6 ++ d

/-- The low byte of an address, `address[7:0]`: the data of a register command (30_encoding.md R86). -/
def lowByteOf (a : VramAddr) : Byte := a.extractLsb' 0 8

/-- The register index of a register command, `address[11:8]` (30_encoding.md R86). -/
def registerIndex (a : VramAddr) : BitVec 4 := a.extractLsb' 8 4

/-- The display height of a mode (10_state.md R48; code points PRESUMED by the spec, D20, log 13). -/
def displayHeight (mode : BitVec 4) : DisplayHeight :=
  if mode = 0b1011#4 then .h224 else if mode = 0b1110#4 then .h240 else .h192

/-- The number of active lines of a display height (10_state.md R48). -/
def heightLines : DisplayHeight → Nat
  | .h192 => 192
  | .h224 => 224
  | .h240 => 240

/-- `vheight(mode)` (10_state.md R48). -/
def vheight (mode : BitVec 4) : Nat := heightLines (displayHeight mode)

/-- The sprite extent `(8 << spriteSize << spriteZoom) - 1` (10_state.md R49). -/
def spriteLimit (r : RegFile) : Nat := ((8 <<< r.spriteSize.toNat) <<< r.spriteZoom.toNat) - 1

/-- `V_PERIOD(REGION)` (41_counters.md R141). -/
def vPeriod (c : Config) : Nat :=
  match c.region with
  | .ntscJ => c.vPeriodNtsc
  | .ntscU => c.vPeriodNtsc
  | .pal => c.vPeriodPal

/-- The V-counter row of the region group and a height (41_counters.md R145, R146); NTSC/192 is fixed. -/
def vcountRow (c : Config) (h : DisplayHeight) : VCountRow :=
  match c.region, h with
  | .pal, .h192 => c.vcountTable.pal192
  | .pal, .h224 => c.vcountTable.pal224
  | .pal, .h240 => c.vcountTable.pal240
  | _, .h192 => { threshold := some 218, offset := 6 }
  | _, .h224 => c.vcountTable.ntsc224
  | _, .h240 => c.vcountTable.ntsc240

/-- The raw line is not above the row's threshold (41_counters.md R142: the threshold is inclusive). -/
def belowThreshold (row : VCountRow) (v : Nat) : Bool :=
  match row.threshold with
  | none => true
  | some t => decide (v ≤ t)

/-- `vcounter()`: the raw line, less the row's offset above the threshold, modulo 256 (41_counters.md R142, D35).
Both subtraction and reduction are in bytes: `(v - K) mod 256` on the integers (log 15). -/
def vcounterView (s : State) : Byte :=
  let row := vcountRow s.cfg (displayHeight s.regs.mode)
  let v := s.counters.vLine
  if belowThreshold row v then BitVec.ofNat 8 v else BitVec.ofNat 8 v - BitVec.ofNat 8 row.offset

/-- `hcounter()`: `((hLatchRaw - 94) >> 2) mod 256`, the subtraction in the counter's width (41_counters.md R143). -/
def hcounterView (s : State) : Byte := ((s.counters.hLatchRaw - 94#16) >>> 2).setWidth 8

/-- `FRAME_IRQ_LINE(h)` (41_counters.md R151). -/
def frameIrqLine (c : Config) : DisplayHeight → Nat
  | .h192 => c.frameIrqLines.at192
  | .h224 => c.frameIrqLines.at224
  | .h240 => c.frameIrqLines.at240

/-- The base of the sprite attribute table, `spriteAttrBase << 7` (42_sprite_evaluation.md R171). -/
def satBase (r : RegFile) : VramAddr := r.spriteAttrBase ++ 0#7

/-- Byte `k` of attribute slot `i`, at `base + 4*i + k` (30_encoding.md R89). -/
def slotByte (s : State) (i k : Nat) : Byte := vramRead s (satBase s.regs + BitVec.ofNat 14 (4 * i + k))

/-- `SAT_SENTINEL` (00_scope.md R9, 42_sprite_evaluation.md R172). -/
def satSentinel : Byte := 0xD0#8

/-- `truncates(spriteSize)` (42_sprite_evaluation.md R175). -/
def truncates (c : Config) (spriteSize : Bool) : Bool :=
  match c.patternTruncOn with
  | .size1 => spriteSize
  | .size0 => !spriteSize

/-- The pattern index of a visible slot, its low two bits cleared where the size mode truncates
(42_sprite_evaluation.md R175). -/
def slotPattern (c : Config) (r : RegFile) (p : Byte) : Byte :=
  if truncates c r.spriteSize then p.extractLsb' 2 6 ++ 0#2 else p

/-- The entry a slot's bytes make: x after early clip, y plus one, the pattern, the colour
(42_sprite_evaluation.md R173, R175; 30_encoding.md R90). -/
def slotEntry (s : State) (i : Nat) : SpriteEntry :=
  let extra := slotByte s i 3
  { x := if extra.getLsbD 7 then slotByte s i 1 - 32#8 else slotByte s i 1
    y := slotByte s i 0 + 1#8
    pattern := slotPattern s.cfg s.regs (slotByte s i 2)
    color := extra.extractLsb' 0 4 }

/-- The far end of a sprite's extent, modulo 256 when `SPRITE_SUM_MOD256` (42_sprite_evaluation.md R174,
43_sprite_compositing.md R191). -/
def extentEnd (c : Config) (start : Byte) (limit : Nat) : Nat :=
  if c.spriteSumMod256 then (start.toNat + limit) % 256 else start.toNat + limit

/-- A position lies within a sprite's extent from `start` (42_sprite_evaluation.md R174 vertically,
43_sprite_compositing.md R191 horizontally). -/
def covers (c : Config) (limit : Nat) (start : Byte) (pos : Nat) : Bool :=
  decide (start.toNat ≤ pos) && decide (pos ≤ extentEnd c start limit)

/-- The base of the sprite patterns, `spritePatternBase << 11` (43_sprite_compositing.md R192). -/
def patternBase (r : RegFile) : VramAddr := r.spritePatternBase ++ 0#11

/-- A local coordinate, `(pos - start) >> spriteZoom` (43_sprite_compositing.md R192). Where `pos < start`, in
states no run reaches, it is 0 (log 14). -/
def localCoord (r : RegFile) (pos : Nat) (start : Byte) : Nat := (pos - start.toNat) >>> r.spriteZoom.toNat

/-- The VRAM address of the byte that holds a sprite's pixel (43_sprite_compositing.md R192). -/
def patternAddress (r : RegFile) (pattern : Byte) (lx ly : Nat) : VramAddr :=
  BitVec.ofNat 14 ((patternBase r).toNat + (pattern.toNat <<< 3) + ((lx >>> 3) <<< 4) + ly)

/-- An entry's pixel at a position is tested and its bit is set: horizontal visibility, pattern byte and bit
select (43_sprite_compositing.md R191 to R193). -/
def opaqueAt (s : State) (h : Byte) (line : Nat) (o : SpriteEntry) : Bool :=
  let lx := localCoord s.regs h.toNat o.x
  let ly := localCoord s.regs line o.y
  covers s.cfg (spriteLimit s.regs) o.x h.toNat
    && (vramRead s (patternAddress s.regs o.pattern lx ly)).getLsbD ((lx % 8) ^^^ 7)

end Sys2Proof.Machine
end

