-- ==== Sys2Proof/Machine/Flags.lean ====
section
/-!
DEFINITION. Every status and interrupt flag computation: the status byte (spec/30_encoding.md R88), the clearing
by `readStatus` (spec/40_register_protocol.md R101), the line counter's and the frame's pending flags
(spec/41_counters.md R151, R152), and the interrupt output (spec/60_exceptions.md R213).
-/

namespace Sys2Proof.Machine

/-- `{frameIrqPending, spriteOverflow, spriteCollision, fifthSprite}` (30_encoding.md R88). -/
def statusByte (f : StatusFlags) : Byte :=
  BitVec.ofBool f.frameIrqPending ++ BitVec.ofBool f.spriteOverflow ++ BitVec.ofBool f.spriteCollision
    ++ f.fifthSprite

/-- The five flags that `readStatus` clears (40_register_protocol.md R101). -/
def clearedFlags : StatusFlags :=
  { frameIrqPending := false, lineIrqPending := false, spriteOverflow := false, spriteCollision := false,
    fifthSprite := 0 }

/-- The line counter after a line start, and whether it underflowed (41_counters.md R152). -/
def lineCounterNext (c : Config) (counter reload : Byte) (v h : Nat) : Byte × Bool :=
  match c.lineCounterModel with
  | .countdown =>
    if v ≤ h then
      if counter = 0 then (reload, true) else (counter - 1#8, false)
    else (reload, false)
  | .other k => Config.otherLineCounter k counter reload v h

/-- The flags after a line start: both pending flags are set here, never cleared (41_counters.md R150, R153). -/
def lineStartFlags (f : StatusFlags) (underflow frameLine : Bool) : StatusFlags :=
  { f with
    lineIrqPending := f.lineIrqPending || underflow
    frameIrqPending := f.frameIrqPending || frameLine }

/-- The interrupt output, recomputed from the state after every step (60_exceptions.md R213; D28, log 13). -/
def State.irq (s : State) : Bool :=
  (s.flags.frameIrqPending && s.regs.frameIrqEnable) || (s.flags.lineIrqPending && s.regs.lineIrqEnable)

end Sys2Proof.Machine
end

