-- ==== Sys2Proof/Machine/CounterUnit.lean ====
section
/-!
DEFINITION. The counter unit (spec/41_counters.md): the pixel tick with its line start, the two host-visible
counter views and the H latch.
-/

namespace Sys2Proof.Machine

/-- `lineStart(v)` (R150): the line-counter step (R152), then the frame flag (R151). -/
def lineStart (s : State) : State :=
  let h := displayHeight s.regs.mode
  let v := s.counters.vLine
  let n := lineCounterNext s.cfg s.counters.lineCounter s.regs.lineReload v (heightLines h)
  (s.setCounters { s.counters with lineCounter := n.1 }).setFlags
    (lineStartFlags s.flags n.2 (decide (v = frameIrqLine s.cfg h)))

/-- The advance of the raw counters: the pixel counter wraps at `H_PERIOD` and then advances the line counter,
which wraps at `V_PERIOD(REGION)` (R140). -/
def advanceRaw (c : Config) (n : Counters) : Counters :=
  if n.hPixel.toNat + 1 = c.hPeriod then
    { n with hPixel := 0, vLine := (n.vLine + 1) % vPeriod c }
  else
    { n with hPixel := n.hPixel + 1#16 }

/-- `TICK` (R140): the line start on the first tick of a line, then the advance. -/
def tick (s : State) : State :=
  let s₁ := if s.counters.hPixel = 0 then lineStart s else s
  s₁.setCounters (advanceRaw s.cfg s₁.counters)

/-- `TICK` (R140). -/
def execTick (s : State) : Result := .next (tick s)

/-- `RV`, `vcounter()` (R142): the view of the live raw line; no state changes but the returned byte. -/
def execRv (s : State) : Result := .next (s.returnByte (vcounterView s))

/-- `RH`, `hcounter()` (R143): the view of the latched pixel count; no state changes but the returned byte. -/
def execRh (s : State) : Result := .next (s.returnByte (hcounterView s))

/-- `LH`, `hcounterLatch()` (R144): `hLatchRaw <- hPixel`. -/
def execLh (s : State) : Result := .next (s.setCounters { s.counters with hLatchRaw := s.counters.hPixel })

end Sys2Proof.Machine
end

