-- ==== Sys2Proof/Machine/RegisterFile.lean ====
section
/-!
DEFINITION. The register writes (spec/40_register_protocol.md R110 to R122, with the layouts of
spec/10_state.md R24 to R36). Each is a function on the register file alone: "None writes a flag other than the
fields named … or changes `address`, `code` or `ctrlPhase`".
-/

namespace Sys2Proof.Machine

/-- The mode selector from its four bits, bit 3 first (10_state.md R26). -/
def modeOf (b3 b2 b1 b0 : Bool) : BitVec 4 :=
  BitVec.ofBool b3 ++ BitVec.ofBool b2 ++ BitVec.ofBool b1 ++ BitVec.ofBool b0

/-- Register 0, mode control 1 (R111); `mode[0]` and `mode[2]` are unchanged. -/
def writeReg0 (v : Byte) (r : RegFile) : RegFile :=
  { r with
    externalSync := v.getLsbD 0
    mode := modeOf (v.getLsbD 2) (r.mode.getLsbD 2) (v.getLsbD 1) (r.mode.getLsbD 0)
    spriteShift := v.getLsbD 3
    lineIrqEnable := v.getLsbD 4
    leftClip := v.getLsbD 5
    hScrollLock := v.getLsbD 6
    vScrollLock := v.getLsbD 7 }

/-- Register 1, mode control 2 (R112); `mode[1]` and `mode[3]` are unchanged, bits 2 and 7 are ignored. -/
def writeReg1 (v : Byte) (r : RegFile) : RegFile :=
  { r with
    spriteZoom := v.getLsbD 0
    spriteSize := v.getLsbD 1
    mode := modeOf (r.mode.getLsbD 3) (v.getLsbD 3) (r.mode.getLsbD 1) (v.getLsbD 4)
    frameIrqEnable := v.getLsbD 5
    displayEnable := v.getLsbD 6 }

/-- Register 2, name table base (R113). -/
def writeReg2 (v : Byte) (r : RegFile) : RegFile := { r with nameTableBase := v.extractLsb' 0 4 }

/-- Register 3, colour table base (R114). -/
def writeReg3 (v : Byte) (r : RegFile) : RegFile := { r with colorTableBase := v }

/-- Register 4, pattern table base (R115). -/
def writeReg4 (v : Byte) (r : RegFile) : RegFile := { r with patternTableBase := v.extractLsb' 0 3 }

/-- Register 5, sprite attribute table base (R116). -/
def writeReg5 (v : Byte) (r : RegFile) : RegFile := { r with spriteAttrBase := v.extractLsb' 0 7 }

/-- Register 6, sprite pattern table base (R117). -/
def writeReg6 (v : Byte) (r : RegFile) : RegFile := { r with spritePatternBase := v.extractLsb' 0 3 }

/-- Register 7, backdrop colour (R118). -/
def writeReg7 (v : Byte) (r : RegFile) : RegFile := { r with backdropColor := v.extractLsb' 0 4 }

/-- Register 8, horizontal scroll (R119). -/
def writeReg8 (v : Byte) (r : RegFile) : RegFile := { r with hScroll := v }

/-- Register 9, vertical scroll (R120). -/
def writeReg9 (v : Byte) (r : RegFile) : RegFile := { r with vScroll := v }

/-- Register 0xA, the line-counter reload value when `REG_A_IS_LINE_COUNTER`, otherwise no register (R121, R122). -/
def writeRegA (c : Config) (v : Byte) (r : RegFile) : RegFile :=
  if c.regAIsLineCounter then { r with lineReload := v } else r

/-- An index with no register: "accepted and discarded, not an error" (R122). -/
def discardWrite (_v : Byte) (r : RegFile) : RegFile := r

/-- `registerWrite(r, v)`, the dispatch of R110. -/
def registerWrite (c : Config) (index : BitVec 4) (v : Byte) (r : RegFile) : RegFile :=
  match index.toNat with
  | 0 => writeReg0 v r
  | 1 => writeReg1 v r
  | 2 => writeReg2 v r
  | 3 => writeReg3 v r
  | 4 => writeReg4 v r
  | 5 => writeReg5 v r
  | 6 => writeReg6 v r
  | 7 => writeReg7 v r
  | 8 => writeReg8 v r
  | 9 => writeReg9 v r
  | 10 => writeRegA c v r
  | _ => discardWrite v r

end Sys2Proof.Machine
end

