-- ==== Sys2Proof/Machine/Protocol.lean ====
section
/-!
DEFINITION. The register protocol handler (spec/40_register_protocol.md): the data port, the control port and its
four commands, and the register writes as commands. No operation of this file stops: "no error conditions are
signaled to the host" (R109).
-/

namespace Sys2Proof.Machine

/-- `readData()` (R100): return the latched byte, clear the phase, refill. -/
def readData (s : State) : State := refill (clearPhase (s.returnByte s.port.readLatch))

/-- `readStatus()` (R101): return the status byte, clear the phase and the five flags, in one step. -/
def readStatus (s : State) : State :=
  (clearPhase (s.returnByte (statusByte s.flags))).setFlags clearedFlags

/-- The store of `writeData`: VRAM for codes 0, 1, 2, CRAM at the masked address for code 3 (R102, 30_encoding.md
R92). -/
def storeData (d : Byte) (s : State) : State :=
  if s.port.code.toNat ≤ 2 then s.writeVram s.port.address d
  else s.writeCram (s.port.address.toNat % cramEntries s.cfg.cramSize) d

/-- The port latches after `writeData` (R102): phase cleared, the latch loaded only when
`DATA_WRITE_LOADS_LATCH` (D9), the address incremented over all 14 bits. -/
def writeDataPort (c : Config) (d : Byte) (p : PortLatches) : PortLatches :=
  { p with
    ctrlPhase := false
    readLatch := if c.dataWriteLoadsLatch then d else p.readLatch
    address := nextAddress p.address }

/-- `writeData(d)` (R102). -/
def writeData (d : Byte) (s : State) : State := (storeData d s).setPort (writeDataPort s.cfg d s.port)

/-- `writeControl(d)` in phase 0, the low byte (R103). -/
def controlLow (d : Byte) (s : State) : State :=
  if s.cfg.ctrlLowImmediate then
    s.setPort { s.port with address := withLowByte s.port.address d, ctrlPhase := true }
  else
    s.setPort { s.port with ctrlLow := d, ctrlPhase := true }

/-- The low byte that a high control byte completes (R103, R104). -/
def pendingLow (s : State) : Byte :=
  if s.cfg.ctrlLowImmediate then lowByteOf s.port.address else s.port.ctrlLow

/-- Command code 2 (R107): write the register that the composed address names. -/
def registerCommand (s : State) : State :=
  s.setRegs (registerWrite s.cfg (registerIndex s.port.address) (lowByteOf s.port.address) s.regs)

/-- The immediate action of a command (R104 to R107, 30_encoding.md R85). -/
def commandAction (s : State) : State :=
  match s.port.code.toNat with
  | 0 => refill s
  | 2 => registerCommand s
  | _ => s

/-- `writeControl(d)` in phase 1, the high byte (R104). -/
def controlHigh (d : Byte) (s : State) : State :=
  commandAction (s.setPort
    { s.port with address := composeAddress d (pendingLow s), code := accessCode d, ctrlPhase := false })

/-- `writeControl(d)`: which half the byte is depends only on the phase (30_encoding.md R94). -/
def writeControl (d : Byte) (s : State) : State :=
  if s.port.ctrlPhase then controlHigh d s else controlLow d s

/-- The two control writes that a control word stands for, first byte first (30_encoding.md R83, R94, R96;
log 3). -/
def controlPair (cw : BitVec 16) (s : State) : State := writeControl (secondByte cw) (writeControl (firstByte cw) s)

/-- `RD` (R100). -/
def execRd (s : State) : Result := .next (readData s)

/-- `RS` (R101). -/
def execRs (s : State) : Result := .next (readStatus s)

/-- `WD d` (R102). -/
def execWd (d : Byte) (s : State) : Result := .next (writeData d s)

/-- `WC.lo d`: the control write `WC d`, which is a low byte in phase 0 (R103); the phase decides (log 4). -/
def execWcLo (d : Byte) (s : State) : Result := .next (writeControl d s)

/-- `WC.hi d`: the control write `WC d`, which is a high byte in phase 1 (R104); the phase decides (log 4). -/
def execWcHi (d : Byte) (s : State) : Result := .next (writeControl d s)

/-- `CMD0.VREAD a` (R105). -/
def execVread (a : VramAddr) (s : State) : Result := .next (controlPair (controlWord 0 a) s)

/-- `CMD1.VWRITE a` (R106). -/
def execVwrite (a : VramAddr) (s : State) : Result := .next (controlPair (controlWord 1 a) s)

/-- `CMD2.SETREG r, d` (R107). -/
def execSetreg (x : BitVec 2) (r : BitVec 4) (d : Byte) (s : State) : Result :=
  .next (controlPair (registerWord x r d) s)

/-- `CMD3.CWRITE a` (R106). -/
def execCwrite (a : VramAddr) (s : State) : Result := .next (controlPair (controlWord 3 a) s)

/-- `REG0` (R111). -/
def execReg0 (x : BitVec 2) (d : Byte) (s : State) : Result := .next (controlPair (registerWord x 0 d) s)

/-- `REG1` (R112). -/
def execReg1 (x : BitVec 2) (d : Byte) (s : State) : Result := .next (controlPair (registerWord x 1 d) s)

/-- `REG2` (R113). -/
def execReg2 (x : BitVec 2) (d : Byte) (s : State) : Result := .next (controlPair (registerWord x 2 d) s)

/-- `REG3` (R114). -/
def execReg3 (x : BitVec 2) (d : Byte) (s : State) : Result := .next (controlPair (registerWord x 3 d) s)

/-- `REG4` (R115). -/
def execReg4 (x : BitVec 2) (d : Byte) (s : State) : Result := .next (controlPair (registerWord x 4 d) s)

/-- `REG5` (R116). -/
def execReg5 (x : BitVec 2) (d : Byte) (s : State) : Result := .next (controlPair (registerWord x 5 d) s)

/-- `REG6` (R117). -/
def execReg6 (x : BitVec 2) (d : Byte) (s : State) : Result := .next (controlPair (registerWord x 6 d) s)

/-- `REG7` (R118). -/
def execReg7 (x : BitVec 2) (d : Byte) (s : State) : Result := .next (controlPair (registerWord x 7 d) s)

/-- `REG8` (R119). -/
def execReg8 (x : BitVec 2) (d : Byte) (s : State) : Result := .next (controlPair (registerWord x 8 d) s)

/-- `REG9` (R120). -/
def execReg9 (x : BitVec 2) (d : Byte) (s : State) : Result := .next (controlPair (registerWord x 9 d) s)

/-- `REGA` (R121, R122). -/
def execRegA (x : BitVec 2) (d : Byte) (s : State) : Result := .next (controlPair (registerWord x 10 d) s)

/-- `REGB` (R122). -/
def execRegB (x : BitVec 2) (d : Byte) (s : State) : Result := .next (controlPair (registerWord x 11 d) s)

/-- `REGC` (R122). -/
def execRegC (x : BitVec 2) (d : Byte) (s : State) : Result := .next (controlPair (registerWord x 12 d) s)

/-- `REGD` (R122). -/
def execRegD (x : BitVec 2) (d : Byte) (s : State) : Result := .next (controlPair (registerWord x 13 d) s)

/-- `REGE` (R122). -/
def execRegE (x : BitVec 2) (d : Byte) (s : State) : Result := .next (controlPair (registerWord x 14 d) s)

/-- `REGF` (R122). -/
def execRegF (x : BitVec 2) (d : Byte) (s : State) : Result := .next (controlPair (registerWord x 15 d) s)

end Sys2Proof.Machine
end

