-- ==== Sys2Proof/Machine/ResetStep.lean ====
section
/-!
DEFINITION. The reset operation (spec/70_reset_and_hazards.md R240).
-/

namespace Sys2Proof.Machine

/-- `RESET` (R240): every field to its `RESET_VALUES` entry, the working set emptied, `evalLine` none; VRAM and
CRAM keep their contents. -/
def resetStep (s : State) : State :=
  let v := s.cfg.resetValues
  ((((s.setRegs v.regs).setPort v.port).setFlags v.flags).setCounters v.counters).setSprites none []

/-- `RESET` (R240). -/
def execReset (s : State) : Result := .next (resetStep s)

end Sys2Proof.Machine
end

