-- ==== Sys2Proof/Machine/SpriteEvaluation.lean ====
section
/-!
DEFINITION. The sprite evaluation pipeline (spec/42_sprite_evaluation.md): attribute table scanner, 4-sprite
selector and overflow detector.
-/

namespace Sys2Proof.Machine

/-- What a walk of the attribute table finds: the selected entries in slot order, and the slot of the fifth
visible sprite if there is one (R176). -/
structure WalkResult where
  selected : List SpriteEntry
  fifth : Option (BitVec 5)
deriving DecidableEq, Repr

/-- `SPRITES_PER_LINE` (00_scope.md R9). -/
def spritesPerLine : Nat := 4

/-- `SAT_SLOTS` (00_scope.md R9). -/
def satSlots : Nat := 32

/-- A slot's entry is visible on a line (R174). -/
def slotVisible (s : State) (line i : Nat) : Bool :=
  covers s.cfg (spriteLimit s.regs) (slotEntry s i).y line

/-- The walk over the next `n` slots from slot `i`, with the entries selected so far: the loop of R170. It stops
at the terminator (R172) and at the fifth visible slot (R176). -/
def walkSlots (s : State) (line : Nat) : Nat → Nat → List SpriteEntry → WalkResult
  | 0, _, acc => { selected := acc, fifth := none }
  | n + 1, i, acc =>
    if slotByte s i 0 = satSentinel then { selected := acc, fifth := none }
    else if slotVisible s line i then
      if acc.length = spritesPerLine then { selected := acc, fifth := some (BitVec.ofNat 5 i) }
      else walkSlots s line n (i + 1) (acc ++ [slotEntry s i])
    else walkSlots s line n (i + 1) acc

/-- The sprite flags after an evaluation: cleared, then set by an overflow (R170, R176). -/
def evaluationFlags (f : StatusFlags) (w : WalkResult) : StatusFlags :=
  { f with
    spriteCollision := false
    spriteOverflow := w.fifth.isSome
    fifthSprite := w.fifth.getD 0 }

/-- `spriteEvaluate(line)` where it is not refused (R170). -/
def evaluate (line : Nat) (s : State) : State :=
  let w := walkSlots s line satSlots 0 []
  (s.setSprites (some line) w.selected).setFlags (evaluationFlags s.flags w)

/-- The sprite stages are refused in the current mode: `SPRITE_ENGINE_SCOPE = legacy_only` and `mode[3] = 1`
(R179b, 43_sprite_compositing.md R198). -/
def modeRefused (s : State) : Bool :=
  decide (s.cfg.spriteEngineScope = .legacyOnly) && s.regs.mode.getLsbD 3

/-- `EVAL line` (R170, R179). -/
def execEval (line : Nat) (s : State) : Result :=
  if 255 < line then .refused .lineOutOfRange
  else if modeRefused s then .refused .mode4Sprites
  else .next (evaluate line s)

end Sys2Proof.Machine
end

