-- ==== Sys2Proof/Machine/SpriteCompositing.lean ====
section
/-!
DEFINITION. The sprite compositing engine (spec/43_sprite_compositing.md): collision detector and colour mux over
the pixel test of Operands.lean.
-/

namespace Sys2Proof.Machine

/-- The scan of the working set at one pixel, with the colour resolved so far: the loop of R190. It ends with the
resolved colour and whether a second opaque pixel was met (R194). -/
def scanPixel (s : State) (h : Byte) (line : Nat) : List SpriteEntry → Option (BitVec 4) → Option (BitVec 4) × Bool
  | [], resolved => (resolved, false)
  | o :: rest, resolved =>
    if opaqueAt s h line o then
      match resolved with
      | some c => (some c, true)
      | none => scanPixel s h line rest (some o.color)
    else scanPixel s h line rest resolved

/-- The colour mux: a resolved colour 1 to 15 is emitted, colour 0 and no colour are transparent (R195). -/
def pixelOf (resolved : Option (BitVec 4)) : Pixel :=
  match resolved with
  | some c => if c = 0 then .transparent else .color c
  | none => .transparent

/-- `spriteComposite(h, line)` where it is not refused (R190). -/
def composite (h : Byte) (line : Nat) (s : State) : State :=
  let r := scanPixel s h line s.sprites none
  (s.setFlags { s.flags with spriteCollision := s.flags.spriteCollision || r.2 }).emit (pixelOf r.1)

/-- `COMP h, line` (R190, R198). -/
def execComp (h : Byte) (line : Nat) (s : State) : Result :=
  if s.evalLine ≠ some line then .refused .notEvaluated
  else if modeRefused s then .refused .mode4Sprites
  else .next (composite h line s)

end Sys2Proof.Machine
end

