-- ==== Sys2Proof/Machine/Dispatch.lean ====
section
/-! DEFINITION. The one match from an operation to its meaning, one arm per row of spec/opcode_table.json. -/

namespace Sys2Proof.Machine

def exec (i : Instr) (s : State) : Host.Outcome State Fault Refusal :=
  match i with
  | .rd => Sys2Proof.Machine.execRd s
  | .rs => Sys2Proof.Machine.execRs s
  | .wd d => Sys2Proof.Machine.execWd d s
  | .wcLo d => Sys2Proof.Machine.execWcLo d s
  | .wcHi d => Sys2Proof.Machine.execWcHi d s
  | .rv => Sys2Proof.Machine.execRv s
  | .rh => Sys2Proof.Machine.execRh s
  | .lh => Sys2Proof.Machine.execLh s
  | .vread a => Sys2Proof.Machine.execVread a s
  | .vwrite a => Sys2Proof.Machine.execVwrite a s
  | .setreg x r d => Sys2Proof.Machine.execSetreg x r d s
  | .cwrite a => Sys2Proof.Machine.execCwrite a s
  | .reg0 x d => Sys2Proof.Machine.execReg0 x d s
  | .reg1 x d => Sys2Proof.Machine.execReg1 x d s
  | .reg2 x d => Sys2Proof.Machine.execReg2 x d s
  | .reg3 x d => Sys2Proof.Machine.execReg3 x d s
  | .reg4 x d => Sys2Proof.Machine.execReg4 x d s
  | .reg5 x d => Sys2Proof.Machine.execReg5 x d s
  | .reg6 x d => Sys2Proof.Machine.execReg6 x d s
  | .reg7 x d => Sys2Proof.Machine.execReg7 x d s
  | .reg8 x d => Sys2Proof.Machine.execReg8 x d s
  | .reg9 x d => Sys2Proof.Machine.execReg9 x d s
  | .regA x d => Sys2Proof.Machine.execRegA x d s
  | .regB x d => Sys2Proof.Machine.execRegB x d s
  | .regC x d => Sys2Proof.Machine.execRegC x d s
  | .regD x d => Sys2Proof.Machine.execRegD x d s
  | .regE x d => Sys2Proof.Machine.execRegE x d s
  | .regF x d => Sys2Proof.Machine.execRegF x d s
  | .tick => Sys2Proof.Machine.execTick s
  | .eval line => Sys2Proof.Machine.execEval line s
  | .comp h line => Sys2Proof.Machine.execComp h line s
  | .reset => Sys2Proof.Machine.execReset s

end Sys2Proof.Machine
end

