-- ==== Sys2Proof/Machine/Step.lean ====
section
/-!
DEFINITION. One step: the next issued operation is taken, decoded in the current control-port phase and performed
(spec/20_memory.md R74, spec/00_scope.md R15; log 1).
-/

namespace Sys2Proof.Machine

/-- One step of the machine. -/
def step (s : State) : Host.Outcome State Fault Refusal :=
  match fetchOp s with
  | none => .next (idle s)
  | some (w, s₁) =>
    match decode s₁.port.ctrlPhase w with
    | .error why => .refused (.rejectedWord why)
    | .ok i => exec i s₁

/-- The state with a word of the opcode table issued before everything else, so that the next step performs it. -/
def State.withFetchWord (s : State) (nbits w : Nat) : State := issueFirst (tableWord nbits w) s

end Sys2Proof.Machine
end

