-- ==== Sys2Proof/WellFormed.lean ====
section
/-!
DEFINITION. Which operations have a word. A line operand is a number (the spec compares it with the raw line
counter and with 255, 42_sprite_evaluation.md R170); a video word has 9 bits for it (30_encoding.md R82). Every
other operand has its field's width by its type.
-/

namespace Sys2Proof

/-- The operation's operands fit the fields of its word. -/
def Instr.wellFormed : Instr → Bool
  | .eval line => decide (line < 512)
  | .comp _ line => decide (line < 512)
  | .rd | .rs | .wd _ | .wcLo _ | .wcHi _ | .rv | .rh | .lh => true
  | .vread _ | .vwrite _ | .setreg _ _ _ | .cwrite _ => true
  | .reg0 _ _ | .reg1 _ _ | .reg2 _ _ | .reg3 _ _ | .reg4 _ _ | .reg5 _ _ | .reg6 _ _ | .reg7 _ _ => true
  | .reg8 _ _ | .reg9 _ _ | .regA _ _ | .regB _ _ | .regC _ _ | .regD _ _ | .regE _ _ | .regF _ _ => true
  | .tick | .reset => true

end Sys2Proof
end

