-- ==== Sys2Proof/Safety.lean ====
section
/-!
DEFINITION. The terms claims are made in: the invariant of the machine, the scheduler's obligations
(spec/70_reset_and_hazards.md R250), the frame of an operation, what no rule reads (spec/10_state.md R53), and the
whole-list reading of the two sprite stages (spec/42_sprite_evaluation.md R177, spec/43_sprite_compositing.md R196).
-/

namespace Sys2Proof.Machine

/-- What a configuration must satisfy (41_counters.md R141), and the reset counters within the counters' ranges. -/
structure ConfigOk (c : Config) : Prop where
  hPeriod_pos : 1 ≤ c.hPeriod
  hPeriod_le : c.hPeriod ≤ 65536
  vPeriodNtsc_ge : 241 ≤ c.vPeriodNtsc
  vPeriodPal_ge : 241 ≤ c.vPeriodPal
  reset_hPixel_lt : c.resetValues.counters.hPixel.toNat < c.hPeriod
  reset_vLine_lt : c.resetValues.counters.vLine < vPeriod c

/-- The invariant of the machine: the memories in canonical form and in their spaces (20_memory.md R60, R62), the
raw counters in their ranges (41_counters.md R141), at most four selected sprites (10_state.md R47), each of which
starts at or above the evaluated line, which is a byte (42_sprite_evaluation.md R174, R179). -/
structure State.Inv (s : State) : Prop where
  cfg_ok : ConfigOk s.cfg
  vram_wf : Memory.wf s.vram
  vram_within : Memory.within 16384 s.vram
  cram_wf : Memory.wf s.cram
  cram_within : Memory.within (cramEntries s.cfg.cramSize) s.cram
  hPixel_lt : s.counters.hPixel.toNat < s.cfg.hPeriod
  vLine_lt : s.counters.vLine < vPeriod s.cfg
  sprites_le : s.sprites.length ≤ 4
  evalLine_le : ∀ l, s.evalLine = some l → l ≤ 255
  sprites_above : ∀ e ∈ s.sprites, ∃ l, s.evalLine = some l ∧ e.y.toNat ≤ l

/-- The parts of the state an operation may be said to change. -/
inductive Part where
  | regs | port | flags | counters | sprites | vram | cram | returned | spriteOut
deriving DecidableEq, Repr

/-- The frame of an operation: everything outside the named parts is unchanged, every byte of both memories
included; the configuration and the queue of issued operations always are. -/
def sameOutside (parts : List Part) (s t : State) : Prop :=
  t.cfg = s.cfg ∧ t.pending = s.pending
    ∧ (Part.regs ∉ parts → t.regs = s.regs)
    ∧ (Part.port ∉ parts → t.port = s.port)
    ∧ (Part.flags ∉ parts → t.flags = s.flags)
    ∧ (Part.counters ∉ parts → t.counters = s.counters)
    ∧ (Part.sprites ∉ parts → t.sprites = s.sprites ∧ t.evalLine = s.evalLine)
    ∧ (Part.vram ∉ parts → ∀ a, vramRead t a = vramRead s a)
    ∧ (Part.cram ∉ parts → ∀ i, cramRead t i = cramRead s i)
    ∧ (Part.returned ∉ parts → t.returned = s.returned)
    ∧ (Part.spriteOut ∉ parts → t.spriteOut = s.spriteOut)

/-- What a register-write command from phase 0 leaves of the port and of the rest of the state
(40_register_protocol.md R104, R107): the whole composed value in the address, code 2, phase 0. The held low byte is
R103's, the spec's decision D8 (log 16); one step for the two writes is the model's (log 3). -/
def registerCommandDone (x : BitVec 2) (r : BitVec 4) (d : Byte) (s t : State) : Prop :=
  t.port.address.toNat = 4096 * x.toNat + 256 * r.toNat + d.toNat
    ∧ t.port.code = 2#2 ∧ t.port.ctrlPhase = false ∧ t.port.readLatch = s.port.readLatch
    ∧ t.port.ctrlLow = (if s.cfg.ctrlLowImmediate then s.port.ctrlLow else d)
    ∧ sameOutside [.regs, .port] s t

/-- The register-file fields that some rule reads; the others are zeroed (10_state.md R53). -/
def RegFile.eraseUnread (r : RegFile) : RegFile :=
  { r with
    externalSync := false, spriteShift := false, leftClip := false, hScrollLock := false, vScrollLock := false
    displayEnable := false, nameTableBase := 0, colorTableBase := 0, patternTableBase := 0, backdropColor := 0
    hScroll := 0, vScroll := 0 }

/-- The state without what the block never reads: the unread register fields (10_state.md R53) and CRAM
(20_memory.md R63). -/
def State.eraseUnread (s : State) : State := { s with regs := RegFile.eraseUnread s.regs, cram := [] }

/-- Apply a function to the next state of a result. -/
def mapNext (f : State → State) : Result → Result
  | .next s => .next (f s)
  | .fault r => .fault r
  | .refused r => .refused r

/-- The slots before the terminator (42_sprite_evaluation.md R171, R172). -/
def activeSlots (s : State) : List Nat :=
  (List.range 32).takeWhile (fun i => !decide (slotByte s i 0 = satSentinel))

/-- The visible slots before the terminator, in slot order (42_sprite_evaluation.md R174, R177). -/
def visibleSlots (s : State) (line : Nat) : List Nat := (activeSlots s).filter (slotVisible s line)

/-- The working-set entries with an opaque pixel at a position, in working-set order (43_sprite_compositing.md
R196). -/
def opaqueEntries (s : State) (h : Byte) (line : Nat) : List SpriteEntry := s.sprites.filter (opaqueAt s h line)

/-- The scheduler's obligations that one state can show (70_reset_and_hazards.md R250 a, b): `EVAL line` on the
active raw line after its line start, `COMP` of the line last evaluated. Host operations, ticks and reset may
stand anywhere (R251). The machine runs other schedules too (log 20). -/
def scheduled (s : State) : Instr → Bool
  | .eval line =>
    decide (s.counters.vLine = line) && decide (line < vheight s.regs.mode) && decide (1 ≤ s.counters.hPixel.toNat)
  | .comp _ line => decide (s.evalLine = some line)
  | .rd | .rs | .wd _ | .wcLo _ | .wcHi _ | .rv | .rh | .lh => true
  | .vread _ | .vwrite _ | .setreg _ _ _ | .cwrite _ => true
  | .reg0 _ _ | .reg1 _ _ | .reg2 _ _ | .reg3 _ _ | .reg4 _ _ | .reg5 _ _ | .reg6 _ _ | .reg7 _ _ => true
  | .reg8 _ _ | .reg9 _ _ | .regA _ _ | .regB _ _ | .regC _ _ | .regD _ _ | .regE _ _ | .regF _ _ => true
  | .tick | .reset => true

/-- What the scheduler has composited of the line it evaluated (70_reset_and_hazards.md R250 c): the horizontal
offsets so far, and whether that line has ended, so that the next evaluation is of another line. Another
evaluation before the line's end is of the same line and keeps the offsets. -/
structure LineUse where
  offsets : List Byte
  ended : Bool
deriving DecidableEq, Repr

/-- `COMP` at most once for each offset of a line (70_reset_and_hazards.md R250 c). -/
def LineUse.admits (u : LineUse) : Instr → Bool
  | .comp h _ => !u.offsets.contains h
  | .rd | .rs | .wd _ | .wcLo _ | .wcHi _ | .rv | .rh | .lh => true
  | .vread _ | .vwrite _ | .setreg _ _ _ | .cwrite _ => true
  | .reg0 _ _ | .reg1 _ _ | .reg2 _ _ | .reg3 _ _ | .reg4 _ _ | .reg5 _ _ | .reg6 _ _ | .reg7 _ _ => true
  | .reg8 _ _ | .reg9 _ _ | .regA _ _ | .regB _ _ | .regC _ _ | .regD _ _ | .regE _ _ | .regF _ _ => true
  | .tick | .eval _ | .reset => true

/-- The line's use after an operation issued in state `s`. A line ends with the tick of its last pixel
(41_counters.md R140) and with reset, which starts the timeline anew. -/
def LineUse.after (u : LineUse) (s : State) : Instr → LineUse
  | .tick => { u with ended := u.ended || decide (s.counters.hPixel.toNat + 1 = s.cfg.hPeriod) }
  | .reset => { u with ended := true }
  | .eval _ => if u.ended then { offsets := [], ended := false } else u
  | .comp h _ => { u with offsets := h :: u.offsets }
  | .rd | .rs | .wd _ | .wcLo _ | .wcHi _ | .rv | .rh | .lh => u
  | .vread _ | .vwrite _ | .setreg _ _ _ | .cwrite _ => u
  | .reg0 _ _ | .reg1 _ _ | .reg2 _ _ | .reg3 _ _ | .reg4 _ _ | .reg5 _ _ | .reg6 _ _ | .reg7 _ _ => u
  | .reg8 _ _ | .reg9 _ _ | .regA _ _ | .regB _ _ | .regC _ _ | .regD _ _ | .regE _ _ | .regF _ _ => u

/-- A run of operations from a state keeps the scheduler's obligations (70_reset_and_hazards.md R250 a, b, c; d allows
any stage to be left out), and each of them completes. -/
def keepsSchedule : LineUse → State → List Instr → Bool
  | _, _, [] => true
  | u, s, i :: rest =>
    scheduled s i && u.admits i &&
      match exec i s with
      | .next t => keepsSchedule (u.after s i) t rest
      | .fault _ => false
      | .refused _ => false

end Sys2Proof.Machine
end

