-- ==== Sys2Proof/Certificates/Slice0/Obligations.lean ====
section
/-!
DEFINITION. The statements about the machine, made from the numbered rules of spec/. Values are stated in the
spec's own arithmetic on natural numbers and integers where the spec gives a formula. "The model's choice" marks a
clause that rests on a log entry and not on a rule; "the spec's decision D<n>" marks a clause that the spec itself
marks as its own choice (92_eei_decisions.md).
-/

open Sys2Proof Sys2Proof.Machine

/-! ### Steps and words -/

/-- A step performs the operation that the first issued word decodes to, in the phase the state is in, on the
state without that word; a word that stands for nothing is refused by name; with nothing issued the state stays.
The queue is the model's choice (log 1). -/
def Obligations.StepPerformsTheDecodedOperation : Prop :=
  (∀ s w rest i, s.pending = w :: rest → decode s.port.ctrlPhase w = .ok i → step s = exec i (s.setPending rest))
    ∧ (∀ s w rest why, s.pending = w :: rest → decode s.port.ctrlPhase w = .error why →
        step s = .refused (.rejectedWord why))
    ∧ (∀ s, s.pending = [] → step s = .next s)

/-- A word of the opcode table placed as the next word is what the next step performs, on the state it was placed
in. The placing of a word is the model's choice (log 1, log 2). -/
def Obligations.TableWordIsPerformedNext : Prop :=
  ∀ s nbits w i, s.port.ctrlPhase = false → decodeTableWord nbits w = some i →
    step (s.withFetchWord nbits w) = exec i s

/-- Words written out in the spec (95_test_vectors.md programs and rows S12, W8) decode to the operations they
stand for. (Host and video words: the spec's decision D1.) -/
def Obligations.SpecWordsDecode : Prop :=
  decode false (.host 0b00000000000#11) = .ok .rd
    ∧ decode true (.host 0b00100000000#11) = .ok .rs
    ∧ decode false (.host 0b01000010001#11) = .ok (.wd 0x11)
    ∧ decode false (.host 0b01111111110#11) = .ok (.wcLo 0xFE)
    ∧ decode true (.host 0b01101111111#11) = .ok (.wcHi 0x7F)
    ∧ decode false (.host 0b10000000000#11) = .ok .rv
    ∧ decode false (.host 0b10100000000#11) = .ok .rh
    ∧ decode false (.host 0b11000000000#11) = .ok .lh
    ∧ decode false (.host 0b11100000000#11) = .error .unusedHostSelector
    ∧ decode false (.control 0x3FFF#16) = .ok (.vread 0x3FFF)
    ∧ decode false (.control 0x7FFE#16) = .ok (.vwrite 0x3FFE)
    ∧ decode false (.control 0xB312#16) = .ok (.setreg 3 3 0x12)
    ∧ decode false (.control 0xC01F#16) = .ok (.cwrite 0x1F)
    ∧ decode false (.register 0x8F55#16) = .ok (.regF 0 0x55)
    ∧ decode false (.video 0b0000000000000000000#19) = .ok .tick
    ∧ decode false (.video 0b0100110010000000000#19) = .ok (.eval 100)
    ∧ decode false (.video 0b1000110010000001110#19) = .ok (.comp 14 100)
    ∧ decode false (.video 0b1100000000000000000#19) = .ok .reset

/-- Every well-formed operation's word decodes back to it, with every operand at every value its field admits, in
each phase in which the word stands for it (a control write: first byte in phase 0, second in phase 1). -/
def Obligations.EncodedOperationDecodesBack : Prop :=
  ∀ ph i, i.wellFormed = true → i.readIn ph = true → decode ph (encode i) = .ok i

/-- What the decoder answers is well-formed, belongs to the phase, and is what its own word decodes to. -/
def Obligations.DecodedOperationIsWellFormed : Prop :=
  ∀ ph w i, decode ph w = .ok i →
    i.wellFormed = true ∧ i.readIn ph = true ∧ decode ph (encode i) = .ok i

/-- R93: the only refused form is host selector 111; every other host word, every control word and every register
word has a defined effect, in every state; the register writes of index 0xB to 0xF, and of 0xA when it is no
register, change no register. (The selector: the spec's decision D1; index 0xA:
D7; the register format: the model's, log 2.) -/
def Obligations.OnlyTheUnusedSelectorIsRefused : Prop :=
  (∀ ph w, (∃ i, decode ph (.host w) = .ok i) ↔ w.extractLsb' 8 3 ≠ 7#3)
    ∧ (∀ ph w, ∃ i, decode ph (.control w) = .ok i)
    ∧ (∀ ph w, ∃ i, decode ph (.register w) = .ok i)
    ∧ (∀ ph w i s, decode ph (.host w) = .ok i → ∃ t, exec i s = .next t)
    ∧ (∀ ph w i s, decode ph (.control w) = .ok i ∨ decode ph (.register w) = .ok i → ∃ t, exec i s = .next t)
    ∧ (∀ c r v (f : RegFile), 11 ≤ r.toNat ∨ (r = 10#4 ∧ c.regAIsLineCounter = false) → registerWrite c r v f = f)

/-! ### The host ports -/

/-- R100: `RD` returns the latched byte, clears the phase, loads the latch from VRAM at the address whatever the
code, and increments the address modulo 16384; nothing else changes. -/
def Obligations.ReadDataReturnsLatchThenRefills : Prop :=
  ∀ s, ∃ t, exec .rd s = .next t
    ∧ t.returned = some s.port.readLatch
    ∧ t.port.ctrlPhase = false
    ∧ t.port.readLatch = vramRead s s.port.address
    ∧ t.port.address.toNat = (s.port.address.toNat + 1) % 16384
    ∧ t.port.code = s.port.code ∧ t.port.ctrlLow = s.port.ctrlLow
    ∧ sameOutside [.port, .returned] s t

/-- R101, R88: `RS` returns the packed status byte, clears the phase and the five flags, and a second `RS` at once
returns zero; nothing else changes. -/
def Obligations.ReadStatusReportsThenClears : Prop :=
  ∀ s, ∃ t b, exec .rs s = .next t ∧ t.returned = some b
    ∧ b.getLsbD 7 = s.flags.frameIrqPending ∧ b.getLsbD 6 = s.flags.spriteOverflow
    ∧ b.getLsbD 5 = s.flags.spriteCollision ∧ b.toNat % 32 = s.flags.fifthSprite.toNat
    ∧ t.flags.frameIrqPending = false ∧ t.flags.lineIrqPending = false ∧ t.flags.spriteOverflow = false
    ∧ t.flags.spriteCollision = false ∧ t.flags.fifthSprite = 0
    ∧ t.port = { s.port with ctrlPhase := false }
    ∧ sameOutside [.port, .flags, .returned] s t
    ∧ ∃ u, exec .rs t = .next u ∧ u.returned = some 0

/-- R102, R92: `WD d` stores the byte to VRAM at the address for codes 0, 1 and 2 and to the CRAM entry
`address mod CRAM_SIZE` for code 3, and to no other byte; it clears the phase, loads the latch only under
`DATA_WRITE_LOADS_LATCH`, and increments the address over all 14 bits. (The latch: the spec's decision D9; the CRAM
entry and its index: D10.) -/
def Obligations.WriteDataStoresThenIncrements : Prop :=
  ∀ s d, ∃ t, exec (.wd d) s = .next t
    ∧ (s.port.code.toNat ≤ 2 →
        (∀ a, vramRead t a = if a = s.port.address then d else vramRead s a) ∧ sameOutside [.port, .vram] s t)
    ∧ (s.port.code = 3#2 →
        (∀ j, cramRead t j = if j = s.port.address.toNat % cramEntries s.cfg.cramSize then d else cramRead s j)
          ∧ sameOutside [.port, .cram] s t)
    ∧ t.port.ctrlPhase = false
    ∧ t.port.readLatch = (if s.cfg.dataWriteLoadsLatch then d else s.port.readLatch)
    ∧ t.port.address.toNat = (s.port.address.toNat + 1) % 16384
    ∧ t.port.code = s.port.code ∧ t.port.ctrlLow = s.port.ctrlLow

/-- R103: in phase 0 a control write is a low byte. Under `CTRL_LOW_IMMEDIATE` it goes into `address[7:0]` at
once, otherwise into `ctrlLow`; the phase becomes 1 and nothing else changes. (The spec's decision D8; `ctrlLow` is held in every
configuration: log 16.) -/
def Obligations.LowControlByteIsTakenFirst : Prop :=
  ∀ s d, s.port.ctrlPhase = false → ∃ t, exec (.wcLo d) s = .next t
    ∧ t.port.ctrlPhase = true
    ∧ t.port.address.toNat
        = (if s.cfg.ctrlLowImmediate then s.port.address.toNat / 256 * 256 + d.toNat else s.port.address.toNat)
    ∧ t.port.ctrlLow = (if s.cfg.ctrlLowImmediate then s.port.ctrlLow else d)
    ∧ t.port.code = s.port.code ∧ t.port.readLatch = s.port.readLatch
    ∧ sameOutside [.port] s t

/-- R104, R105, R107: in phase 1 a control write is a high byte. It composes the address from its low six bits and the
pending low byte, takes its top two bits as the code and clears the phase; then code 0 refills the latch and
increments, code 2 writes the register the address names, codes 1 and 3 do nothing further. -/
def Obligations.HighControlByteComposesAndDispatches : Prop :=
  ∀ s d, s.port.ctrlPhase = true → ∃ t, exec (.wcHi d) s = .next t
    ∧ t.port.ctrlPhase = false
    ∧ t.port.code.toNat = d.toNat / 64
    ∧ t.port.ctrlLow = s.port.ctrlLow
    ∧ ∃ a : VramAddr,
        a.toNat = d.toNat % 64 * 256
            + (if s.cfg.ctrlLowImmediate then s.port.address.toNat % 256 else s.port.ctrlLow.toNat)
        ∧ (t.port.code = 0#2 → t.port.readLatch = vramRead s a ∧ t.port.address.toNat = (a.toNat + 1) % 16384)
        ∧ (t.port.code ≠ 0#2 → t.port.readLatch = s.port.readLatch ∧ t.port.address = a)
        ∧ (t.port.code = 2#2 →
            t.regs = registerWrite s.cfg (BitVec.ofNat 4 (a.toNat / 256)) (BitVec.ofNat 8 a.toNat) s.regs)
        ∧ (t.port.code ≠ 2#2 → t.regs = s.regs)
        ∧ sameOutside [.regs, .port] s t

/-- R94: which half a control write is depends only on the phase, so the two rows of `WC` have one effect in
every state. (Two rows, one word: the model's reading, log 4.) -/
def Obligations.ControlWriteHalfDependsOnPhase : Prop :=
  ∀ s d, exec (.wcLo d) s = exec (.wcHi d) s
    ∧ ∃ t, exec (.wcLo d) s = .next t ∧ t.port.ctrlPhase = !s.port.ctrlPhase

/-- R96, R83: every command word and register word acts as its two control writes, first byte first, in every
state, whatever the phase. (The expansion: the spec's decision D36; one step for two writes: the model's, log 3.) -/
def Obligations.CommandWordIsItsTwoControlWrites : Prop :=
  ∀ i cw s, encode i = .control cw ∨ encode i = .register cw →
    ∃ t u, exec (.wcLo (cw.extractLsb' 0 8)) s = .next t
      ∧ exec (.wcHi (cw.extractLsb' 8 8)) t = .next u ∧ exec i s = .next u

/-- R105, R106: from phase 0, `VREAD a` leaves code 0, the latch loaded from `a` and the address one past it;
`VWRITE a` and `CWRITE a` leave the address `a`, codes 1 and 3, and the latch as it was. (The held low
byte: R103, the spec's decision D8, log 16; one step for two writes: the model's, log 3.) -/
def Obligations.SetupCommandsFromPhaseZero : Prop :=
  ∀ s a, s.port.ctrlPhase = false →
    (∃ t, exec (.vread a) s = .next t ∧ t.port.code = 0#2 ∧ t.port.ctrlPhase = false
      ∧ t.port.readLatch = vramRead s a ∧ t.port.address.toNat = (a.toNat + 1) % 16384
      ∧ t.port.ctrlLow.toNat = (if s.cfg.ctrlLowImmediate then s.port.ctrlLow.toNat else a.toNat % 256)
      ∧ sameOutside [.port] s t)
    ∧ (∃ t, exec (.vwrite a) s = .next t ∧ t.port.code = 1#2 ∧ t.port.ctrlPhase = false
      ∧ t.port.readLatch = s.port.readLatch ∧ t.port.address = a
      ∧ t.port.ctrlLow.toNat = (if s.cfg.ctrlLowImmediate then s.port.ctrlLow.toNat else a.toNat % 256)
      ∧ sameOutside [.port] s t)
    ∧ (∃ t, exec (.cwrite a) s = .next t ∧ t.port.code = 3#2 ∧ t.port.ctrlPhase = false
      ∧ t.port.readLatch = s.port.readLatch ∧ t.port.address = a
      ∧ t.port.ctrlLow.toNat = (if s.cfg.ctrlLowImmediate then s.port.ctrlLow.toNat else a.toNat % 256)
      ∧ sameOutside [.port] s t)

/-- From phase 1 a command word is taken apart (95_test_vectors.md X3): its first byte completes the pending pair
and its second byte is a new low byte, so it leaves phase 1, the code of its first byte, and its second byte
pending. (Where the new low byte is held: R103, the spec's decision D8, log 16; one step for two writes: the model's,
log 3.) -/
def Obligations.CommandWordInPhaseOneIsTakenApart : Prop :=
  ∀ i cw s, encode i = .control cw ∨ encode i = .register cw → s.port.ctrlPhase = true →
    ∃ t, exec i s = .next t ∧ t.port.ctrlPhase = true
      ∧ t.port.code = cw.extractLsb' 6 2
      ∧ (if s.cfg.ctrlLowImmediate then t.port.address.extractLsb' 0 8 else t.port.ctrlLow) = cw.extractLsb' 8 8

/-- R52: two control writes from phase 0 compose one operand, a third starts again with a low byte, and any
`RD`, `RS` or `WD` makes the next control write a low byte. -/
def Obligations.ControlWritesAlternate : Prop :=
  (∀ s b₁ b₂ b₃, s.port.ctrlPhase = false →
    ∃ t u v, exec (.wcLo b₁) s = .next t ∧ exec (.wcHi b₂) t = .next u ∧ exec (.wcLo b₃) u = .next v
      ∧ t.port.ctrlPhase = true ∧ u.port.ctrlPhase = false ∧ v.port.ctrlPhase = true
      ∧ u.port.code.toNat = b₂.toNat / 64
      ∧ (u.port.code ≠ 0#2 → u.port.address.toNat = b₂.toNat % 64 * 256 + b₁.toNat)
      ∧ (u.port.code = 0#2 → u.port.address.toNat = (b₂.toNat % 64 * 256 + b₁.toNat + 1) % 16384))
    ∧ (∀ s d, (∃ t, exec .rd s = .next t ∧ t.port.ctrlPhase = false)
        ∧ (∃ t, exec .rs s = .next t ∧ t.port.ctrlPhase = false)
        ∧ (∃ t, exec (.wd d) s = .next t ∧ t.port.ctrlPhase = false))

/-- Every operation other than the two sprite stages completes in every state: no byte, register index or address is
rejected. R109 says so of the register protocol; of the counter unit and reset it follows from R210 and the rules the
spec marks as its decisions D23, D25, D29 and D30. -/
def Obligations.OperationsOutsideTheSpriteStagesComplete : Prop :=
  ∀ i s, (∀ l, i ≠ .eval l) → (∀ h l, i ≠ .comp h l) → ∃ t, exec i s = .next t

/-- R105, R100: after `VREAD a` from phase 0, `RD` returns the byte of VRAM at `a` and leaves the address two past
it. (One step for two writes: the model's, log 3.) -/
def Obligations.ReadSetupThenReadReturnsTheByte : Prop :=
  ∀ s a, s.port.ctrlPhase = false → ∃ t u, exec (.vread a) s = .next t ∧ exec .rd t = .next u
    ∧ u.returned = some (vramRead s a) ∧ u.port.address.toNat = (a.toNat + 2) % 16384

/-- R77: a byte written through `VWRITE a; WD d` is what a later `VREAD a; RD` returns, with the operations that
change no VRAM byte in between left out. (One step for two writes: the model's, log 3.) -/
def Obligations.WrittenByteIsReadBack : Prop :=
  ∀ s a d, s.port.ctrlPhase = false →
    ∃ s₁ s₂ s₃ s₄, exec (.vwrite a) s = .next s₁ ∧ exec (.wd d) s₁ = .next s₂
      ∧ exec (.vread a) s₂ = .next s₃ ∧ exec .rd s₃ = .next s₄ ∧ s₄.returned = some d

/-- R38: the address wraps modulo 16384: `k` reads of the data port, for every `k`, advance it by `k` modulo 16384
and change no VRAM byte. -/
def Obligations.ReadStreamWrapsTheAddress : Prop :=
  ∀ k s, s.pending = List.replicate k (encode .rd) →
    ∃ t, core.run k s = .next t
      ∧ t.port.address.toNat = (s.port.address.toNat + k) % 16384 ∧ (∀ a, vramRead t a = vramRead s a)

/-! ### The register file -/

/-- R107, R86: from phase 0, `SETREG r, d` writes register `r` with `d` and leaves the whole composed word in the
address, code 2, whatever the two ignored bits are. (The held low byte: the spec's decision D8, log 16; one step for
two writes: the model's, log 3.) -/
def Obligations.SetregWritesTheIndexedRegister : Prop :=
  ∀ s x r d, s.port.ctrlPhase = false → ∃ t, exec (.setreg x r d) s = .next t
    ∧ t.regs = registerWrite s.cfg r d s.regs ∧ registerCommandDone x r d s t

/-- R111, R24: register 0 sets its six flags and `mode[1]`, `mode[3]`; `mode[0]`, `mode[2]` and every other field
keep their values. (The six flags' bits: the spec's decision D3, log 13; the held low byte: D8,
log 16; one step for two writes: log 3.) -/
def Obligations.Register0ScattersModeBits : Prop :=
  ∀ s x d, s.port.ctrlPhase = false → ∃ t, exec (.reg0 x d) s = .next t
    ∧ t.regs.externalSync = d.getLsbD 0 ∧ t.regs.mode.getLsbD 1 = d.getLsbD 1
    ∧ t.regs.mode.getLsbD 3 = d.getLsbD 2 ∧ t.regs.spriteShift = d.getLsbD 3
    ∧ t.regs.lineIrqEnable = d.getLsbD 4 ∧ t.regs.leftClip = d.getLsbD 5
    ∧ t.regs.hScrollLock = d.getLsbD 6 ∧ t.regs.vScrollLock = d.getLsbD 7
    ∧ t.regs.mode.getLsbD 0 = s.regs.mode.getLsbD 0 ∧ t.regs.mode.getLsbD 2 = s.regs.mode.getLsbD 2
    ∧ t.regs.spriteZoom = s.regs.spriteZoom ∧ t.regs.spriteSize = s.regs.spriteSize
    ∧ t.regs.frameIrqEnable = s.regs.frameIrqEnable ∧ t.regs.displayEnable = s.regs.displayEnable
    ∧ t.regs.nameTableBase = s.regs.nameTableBase ∧ t.regs.colorTableBase = s.regs.colorTableBase
    ∧ t.regs.patternTableBase = s.regs.patternTableBase ∧ t.regs.spriteAttrBase = s.regs.spriteAttrBase
    ∧ t.regs.spritePatternBase = s.regs.spritePatternBase ∧ t.regs.backdropColor = s.regs.backdropColor
    ∧ t.regs.hScroll = s.regs.hScroll ∧ t.regs.vScroll = s.regs.vScroll ∧ t.regs.lineReload = s.regs.lineReload
    ∧ registerCommandDone x 0 d s t

/-- R112, R25: register 1 sets its four flags and `mode[2]`, `mode[0]`; bits 2 and 7 are ignored; `mode[1]`,
`mode[3]` and every other field keep their values. (The layout: the spec's decision D4, log 13; the held low
byte: D8, log 16; one step for two writes: log 3.) -/
def Obligations.Register1SetsSizeZoomAndEnables : Prop :=
  ∀ s x d, s.port.ctrlPhase = false → ∃ t, exec (.reg1 x d) s = .next t
    ∧ t.regs.spriteZoom = d.getLsbD 0 ∧ t.regs.spriteSize = d.getLsbD 1
    ∧ t.regs.mode.getLsbD 2 = d.getLsbD 3 ∧ t.regs.mode.getLsbD 0 = d.getLsbD 4
    ∧ t.regs.frameIrqEnable = d.getLsbD 5 ∧ t.regs.displayEnable = d.getLsbD 6
    ∧ t.regs.mode.getLsbD 1 = s.regs.mode.getLsbD 1 ∧ t.regs.mode.getLsbD 3 = s.regs.mode.getLsbD 3
    ∧ t.regs.externalSync = s.regs.externalSync ∧ t.regs.spriteShift = s.regs.spriteShift
    ∧ t.regs.lineIrqEnable = s.regs.lineIrqEnable ∧ t.regs.leftClip = s.regs.leftClip
    ∧ t.regs.hScrollLock = s.regs.hScrollLock ∧ t.regs.vScrollLock = s.regs.vScrollLock
    ∧ t.regs.nameTableBase = s.regs.nameTableBase ∧ t.regs.colorTableBase = s.regs.colorTableBase
    ∧ t.regs.patternTableBase = s.regs.patternTableBase ∧ t.regs.spriteAttrBase = s.regs.spriteAttrBase
    ∧ t.regs.spritePatternBase = s.regs.spritePatternBase ∧ t.regs.backdropColor = s.regs.backdropColor
    ∧ t.regs.hScroll = s.regs.hScroll ∧ t.regs.vScroll = s.regs.vScroll ∧ t.regs.lineReload = s.regs.lineReload
    ∧ registerCommandDone x 1 d s t

/-- R113 to R117: registers 2 to 6 take the low 4, 8, 3, 7 and 3 bits of the byte and change no other field. (The
widths: the spec's decision D5, log 13; the held low byte: D8, log 16; one step for two writes: log 3.) -/
def Obligations.TableBaseRegistersTakeLowBits : Prop :=
  ∀ s x d, s.port.ctrlPhase = false →
    (∃ t, exec (.reg2 x d) s = .next t
      ∧ t.regs = { s.regs with nameTableBase := BitVec.ofNat 4 (d.toNat % 16) } ∧ registerCommandDone x 2 d s t)
    ∧ (∃ t, exec (.reg3 x d) s = .next t
      ∧ t.regs = { s.regs with colorTableBase := d } ∧ registerCommandDone x 3 d s t)
    ∧ (∃ t, exec (.reg4 x d) s = .next t
      ∧ t.regs = { s.regs with patternTableBase := BitVec.ofNat 3 (d.toNat % 8) } ∧ registerCommandDone x 4 d s t)
    ∧ (∃ t, exec (.reg5 x d) s = .next t
      ∧ t.regs = { s.regs with spriteAttrBase := BitVec.ofNat 7 (d.toNat % 128) } ∧ registerCommandDone x 5 d s t)
    ∧ (∃ t, exec (.reg6 x d) s = .next t
      ∧ t.regs = { s.regs with spritePatternBase := BitVec.ofNat 3 (d.toNat % 8) } ∧ registerCommandDone x 6 d s t)

/-- R118 to R120: register 7 takes the low four bits, registers 8 and 9 the whole byte, and no other field
changes. (The widths: the spec's decision D6, log 13; the held low byte: D8, log 16; one step for two writes:
log 3.) -/
def Obligations.BackdropAndScrollRegisters : Prop :=
  ∀ s x d, s.port.ctrlPhase = false →
    (∃ t, exec (.reg7 x d) s = .next t
      ∧ t.regs = { s.regs with backdropColor := BitVec.ofNat 4 (d.toNat % 16) } ∧ registerCommandDone x 7 d s t)
    ∧ (∃ t, exec (.reg8 x d) s = .next t
      ∧ t.regs = { s.regs with hScroll := d } ∧ registerCommandDone x 8 d s t)
    ∧ (∃ t, exec (.reg9 x d) s = .next t
      ∧ t.regs = { s.regs with vScroll := d } ∧ registerCommandDone x 9 d s t)

/-- R121: register 0xA takes the reload value when `REG_A_IS_LINE_COUNTER`, and the line counter itself is not
changed. (The spec's decision D7; the held low byte: D8, log 16; one step for two writes: log 3.) -/
def Obligations.ReloadRegisterTakesTheByte : Prop :=
  ∀ s x d, s.port.ctrlPhase = false → s.cfg.regAIsLineCounter = true → ∃ t, exec (.regA x d) s = .next t
    ∧ t.regs = { s.regs with lineReload := d } ∧ t.counters = s.counters ∧ registerCommandDone x 10 d s t

/-- R122: registers 0xB to 0xF, and 0xA when `REG_A_IS_LINE_COUNTER` is false, change no field; the surrounding
control write still updates the address and the code. (The held low byte: the spec's decision D8, log 16; one step
for two writes: the model's, log 3.) -/
def Obligations.WritesToMissingRegistersAreDiscarded : Prop :=
  ∀ s x d, s.port.ctrlPhase = false →
    (s.cfg.regAIsLineCounter = false →
      ∃ t, exec (.regA x d) s = .next t ∧ t.regs = s.regs ∧ registerCommandDone x 10 d s t)
    ∧ (∃ t, exec (.regB x d) s = .next t ∧ t.regs = s.regs ∧ registerCommandDone x 11 d s t)
    ∧ (∃ t, exec (.regC x d) s = .next t ∧ t.regs = s.regs ∧ registerCommandDone x 12 d s t)
    ∧ (∃ t, exec (.regD x d) s = .next t ∧ t.regs = s.regs ∧ registerCommandDone x 13 d s t)
    ∧ (∃ t, exec (.regE x d) s = .next t ∧ t.regs = s.regs ∧ registerCommandDone x 14 d s t)
    ∧ (∃ t, exec (.regF x d) s = .next t ∧ t.regs = s.regs ∧ registerCommandDone x 15 d s t)

/-- R48: the display height of every mode value. (The two code points: the spec's decision D20, log 13.) -/
def Obligations.DisplayHeightOfEveryMode : Prop :=
  ∀ m : BitVec 4, vheight m = if m.toNat = 11 then 224 else if m.toNat = 14 then 240 else 192

/-- R49: the sprite extent is 7, 15 or 31 by size and zoom, `(8 << size << zoom) - 1`. -/
def Obligations.SpriteExtentBySizeAndZoom : Prop :=
  ∀ r : RegFile,
    spriteLimit r = 8 * (if r.spriteSize then 2 else 1) * (if r.spriteZoom then 2 else 1) - 1
    ∧ spriteLimit r = (if r.spriteSize && r.spriteZoom then 31 else if r.spriteSize || r.spriteZoom then 15 else 7)

/-! ### The counter unit -/

/-- R140: `TICK` advances the raw counters, the pixel counter wrapping at `H_PERIOD` and the raw line at
`V_PERIOD(REGION)`, for counters in their ranges; away from the first pixel of a line no flag and no line counter
changes; nothing else changes ever. (The spec's decisions D23 and D30.) -/
def Obligations.TickAdvancesTheRawCounters : Prop :=
  ∀ s, s.counters.hPixel.toNat < s.cfg.hPeriod → s.cfg.hPeriod ≤ 65536 →
    ∃ t, exec .tick s = .next t
      ∧ t.counters.hPixel.toNat
          = (if s.counters.hPixel.toNat + 1 = s.cfg.hPeriod then 0 else s.counters.hPixel.toNat + 1)
      ∧ t.counters.vLine
          = (if s.counters.hPixel.toNat + 1 = s.cfg.hPeriod then (s.counters.vLine + 1) % vPeriod s.cfg
             else s.counters.vLine)
      ∧ t.counters.hLatchRaw = s.counters.hLatchRaw
      ∧ (s.counters.hPixel ≠ 0 → t.flags = s.flags ∧ t.counters.lineCounter = s.counters.lineCounter)
      ∧ sameOutside [.counters, .flags] s t

/-- R150, R152 (the line-counter model of R152): the first tick of a line counts the line counter down on lines up
to the display height, reloading it and setting the line flag when it was 0, reloads it on other lines, and sets
the frame flag on the frame-interrupt line; it clears no flag and leaves the sprite flags. (The spec's decisions
D26, D27 and D30, log 18.) -/
def Obligations.LineStartStepsTheLineCounter : Prop :=
  ∀ s, s.counters.hPixel = 0 → s.cfg.lineCounterModel = .countdown →
    ∃ t, exec .tick s = .next t
      ∧ t.counters.lineCounter.toNat
          = (if s.counters.vLine ≤ vheight s.regs.mode then
               (if s.counters.lineCounter.toNat = 0 then s.regs.lineReload.toNat
                else s.counters.lineCounter.toNat - 1)
             else s.regs.lineReload.toNat)
      ∧ (t.flags.lineIrqPending = true ↔ s.flags.lineIrqPending = true
          ∨ (s.counters.vLine ≤ vheight s.regs.mode ∧ s.counters.lineCounter.toNat = 0))
      ∧ (t.flags.frameIrqPending = true ↔ s.flags.frameIrqPending = true
          ∨ s.counters.vLine = frameIrqLine s.cfg (displayHeight s.regs.mode))
      ∧ t.flags.spriteOverflow = s.flags.spriteOverflow ∧ t.flags.spriteCollision = s.flags.spriteCollision
      ∧ t.flags.fifthSprite = s.flags.fifthSprite

/-- R142: `RV` returns the raw line, less the row's offset above the row's threshold, modulo 256 on the integers,
and changes no other state. (Live counter, modulo 256: the spec's decisions D25 and D35; the
row: D21 and D22, its height: D20, log 13.) -/
def Obligations.VCounterReadsTheLogicalScanline : Prop :=
  ∀ s, ∃ t b, exec .rv s = .next t ∧ t.returned = some b ∧ sameOutside [.returned] s t
    ∧ (b.toNat : Int)
        = (match (vcountRow s.cfg (displayHeight s.regs.mode)).threshold with
           | none => (s.counters.vLine : Int)
           | some T => if s.counters.vLine ≤ T then (s.counters.vLine : Int)
                       else (s.counters.vLine : Int) - (vcountRow s.cfg (displayHeight s.regs.mode)).offset) % 256

/-- R145, R146: the V-counter row of each region group and height. The two NTSC regions share every row (one counter
behaviour: R4; that they are identical: the spec's decision D22), and NTSC/192 is (218, 6) whatever the table; the
other five are the spec's defaults, PRESUMED (log 8; its decision D21). -/
def Obligations.VCounterTableRows : Prop :=
  (∀ c h, c.region = .ntscJ → vcountRow c h = vcountRow { c with region := .ntscU } h)
    ∧ (∀ c, c.region ≠ .pal → vcountRow c .h192 = { threshold := some 218, offset := 6 })
    ∧ (∀ c, c.vcountTable = defaultVCountTable →
        (c.region ≠ .pal → vcountRow c .h224 = { threshold := some 234, offset := 6 })
        ∧ (c.region ≠ .pal → vcountRow c .h240 = { threshold := none, offset := 0 })
        ∧ (c.region = .pal → vcountRow c .h192 = { threshold := some 242, offset := 57 })
        ∧ (c.region = .pal → vcountRow c .h224 = { threshold := some 258, offset := 57 })
        ∧ (c.region = .pal → vcountRow c .h240 = { threshold := some 266, offset := 57 }))

/-- R147: with the default table, on every active line the logical scanline `RV` returns is the raw line. (The
table's rows: the spec's decisions D21 and D22, log 8; the height: D20, log 13.) -/
def Obligations.ActiveLinesReadUnchanged : Prop :=
  ∀ s, s.cfg.vcountTable = defaultVCountTable → s.counters.vLine < vheight s.regs.mode →
    ∃ t b, exec .rv s = .next t ∧ t.returned = some b ∧ b.toNat = s.counters.vLine

/-- R143: `RH` returns `((hLatchRaw - 94) >> 2) mod 256` of the latched count, which is the floor division on the
integers, and changes no other state. (Width, latch: the spec's decisions D24 and D25.) -/
def Obligations.HCounterReadsTheLatchedCount : Prop :=
  ∀ s, ∃ t b, exec .rh s = .next t ∧ t.returned = some b ∧ sameOutside [.returned] s t
    ∧ b.toNat = (s.counters.hLatchRaw.toNat + 65536 - 94) % 65536 / 4 % 256
    ∧ (b.toNat : Int) = Int.fdiv ((s.counters.hLatchRaw.toNat : Int) - 94) 4 % 256

/-- R144: `LH` copies the live pixel count into the latch and changes nothing else, so a following `RH` reads the
count of that moment. (The spec's decisions D25 and D38.) -/
def Obligations.HLatchCopiesThePixelCount : Prop :=
  ∀ s, ∃ t, exec .lh s = .next t
    ∧ t.counters = { s.counters with hLatchRaw := s.counters.hPixel } ∧ sameOutside [.counters] s t
    ∧ ∃ u b, exec .rh t = .next u ∧ u.returned = some b
      ∧ b.toNat = (s.counters.hPixel.toNat + 65536 - 94) % 65536 / 4 % 256

/-- R221: only `TICK` and reset change the raw counters and the line counter; only `LH` and reset change the H
latch. -/
def Obligations.CountersMoveOnlyByTheTimeline : Prop :=
  ∀ i s t, exec i s = .next t →
    (i ≠ .tick → i ≠ .reset →
      t.counters.hPixel = s.counters.hPixel ∧ t.counters.vLine = s.counters.vLine
        ∧ t.counters.lineCounter = s.counters.lineCounter)
    ∧ (i ≠ .lh → i ≠ .reset → t.counters.hLatchRaw = s.counters.hLatchRaw)

/-! ### Sprite evaluation -/

/-- R179: `EVAL line` is refused exactly for a line above 255, and, under `legacy_only`, while `mode[3] = 1`; in
every other case it completes. (The spec's decisions D18 and D19.) -/
def Obligations.EvaluationRefusedExactly : Prop :=
  ∀ s line,
    (exec (.eval line) s = .refused .lineOutOfRange ↔ 255 < line)
    ∧ (exec (.eval line) s = .refused .mode4Sprites
        ↔ line ≤ 255 ∧ s.cfg.spriteEngineScope = .legacyOnly ∧ s.regs.mode.getLsbD 3 = true)
    ∧ ((∃ t, exec (.eval line) s = .next t)
        ↔ line ≤ 255 ∧ ¬ (s.cfg.spriteEngineScope = .legacyOnly ∧ s.regs.mode.getLsbD 3 = true))

/-- R89, R171, R173, R175, R90: the entry of a slot, in the spec's arithmetic on its four bytes at
`(spriteAttrBase << 7) + 4*i`. (The spec's decisions D11, D12 and D14, log 13.) -/
def Obligations.SlotEntryIsTransformed : Prop :=
  ∀ s i, i < 32 →
    let byte := fun k => (vramRead s (BitVec.ofNat 14 (s.regs.spriteAttrBase.toNat * 128 + 4 * i + k))).toNat
    (slotByte s i 0).toNat = byte 0
    ∧ (slotEntry s i).y.toNat = (byte 0 + 1) % 256
    ∧ (slotEntry s i).x.toNat = (if 128 ≤ byte 3 then (byte 1 + 224) % 256 else byte 1)
    ∧ (slotEntry s i).color.toNat = byte 3 % 16
    ∧ (slotEntry s i).pattern.toNat
        = (if (s.cfg.patternTruncOn = .size1 ∧ s.regs.spriteSize = true)
              ∨ (s.cfg.patternTruncOn = .size0 ∧ s.regs.spriteSize = false) then byte 2 / 4 * 4 else byte 2)

/-- R174: a slot is visible on a line exactly when its `y` is not above it and the far end of its extent, modulo
256 under `SPRITE_SUM_MOD256`, is not below it. (The wrap: the spec's decision D13.) -/
def Obligations.SlotVisibility : Prop :=
  ∀ s line i, slotVisible s line i = true ↔
    (slotEntry s i).y.toNat ≤ line
    ∧ line ≤ (if s.cfg.spriteSumMod256 then ((slotEntry s i).y.toNat + spriteLimit s.regs) % 256
              else (slotEntry s i).y.toNat + spriteLimit s.regs)

/-- R172, R176: where it is not refused, `EVAL line` selects exactly the first four visible slots
before the terminator, in slot order; it sets the overflow flag exactly when there is a fifth, and records the
fifth's slot index; it clears the collision flag, records the line, and changes nothing else. (The recorded line is
the spec's bookkeeping of R170 and R198, log 12; the cleared collision flag is R170's; a slot's entry, its visibility
and the refused cases rest on the spec's decisions D11 to D14, D18 and D19.) -/
def Obligations.EvaluationSelectsTheFirstFourVisible : Prop :=
  ∀ s line, line ≤ 255 → ¬ (s.cfg.spriteEngineScope = .legacyOnly ∧ s.regs.mode.getLsbD 3 = true) →
    ∃ t, exec (.eval line) s = .next t
      ∧ t.sprites = ((visibleSlots s line).take 4).map (slotEntry s)
      ∧ t.evalLine = some line
      ∧ (t.flags.spriteOverflow = true ↔ 4 < (visibleSlots s line).length)
      ∧ t.flags.fifthSprite = BitVec.ofNat 5 ((visibleSlots s line).getD 4 0)
      ∧ t.flags.spriteCollision = false
      ∧ t.flags.frameIrqPending = s.flags.frameIrqPending ∧ t.flags.lineIrqPending = s.flags.lineIrqPending
      ∧ sameOutside [.sprites, .flags] s t

/-- R172: whatever stands in VRAM outside the slots up to a terminator does not change what an evaluation does:
the slots after it are never evaluated. -/
def Obligations.SlotsAfterTheTerminatorAreIgnored : Prop :=
  ∀ s m k line, k < 32 → slotByte s k 0 = satSentinel →
    (∀ i j, i ≤ k → j < 4 → slotByte { s with vram := m } i j = slotByte s i j) →
    mapNext (fun t => { t with vram := [] }) (exec (.eval line) { s with vram := m })
      = mapNext (fun t => { t with vram := [] }) (exec (.eval line) s)

/-! ### Sprite compositing -/

/-- R198: `COMP h, line` is refused exactly when the line is not the one last evaluated, and, under `legacy_only`,
while `mode[3] = 1`; in every other case it completes. (The spec's decisions D18 and D30; the
evaluated line: log 12.) -/
def Obligations.CompositingRefusedExactly : Prop :=
  ∀ s h line,
    (exec (.comp h line) s = .refused .notEvaluated ↔ s.evalLine ≠ some line)
    ∧ (exec (.comp h line) s = .refused .mode4Sprites
        ↔ s.evalLine = some line ∧ s.cfg.spriteEngineScope = .legacyOnly ∧ s.regs.mode.getLsbD 3 = true)
    ∧ ((∃ t, exec (.comp h line) s = .next t)
        ↔ s.evalLine = some line ∧ ¬ (s.cfg.spriteEngineScope = .legacyOnly ∧ s.regs.mode.getLsbD 3 = true))

/-- R191 to R193: a working-set entry's pixel at `h` is opaque exactly when `h` lies in its extent and bit
`7 - lx mod 8` of the pattern byte is set, the byte at the address the spec's formula gives, for an entry that
starts at or above the line. (The spec's decisions D13, D15 and D16, log 13.) -/
def Obligations.OpaquePixelTest : Prop :=
  ∀ s h line o, o.y.toNat ≤ line →
    let zoom := if s.regs.spriteZoom then 2 else 1
    let lx := (h.toNat - o.x.toNat) / zoom
    let ly := (line - o.y.toNat) / zoom
    let addr := (s.regs.spritePatternBase.toNat * 2048 + o.pattern.toNat * 8 + lx / 8 * 16 + ly) % 16384
    let right := if s.cfg.spriteSumMod256 then (o.x.toNat + spriteLimit s.regs) % 256
                 else o.x.toNat + spriteLimit s.regs
    (opaqueAt s h line o = true ↔
      o.x.toNat ≤ h.toNat ∧ h.toNat ≤ right
      ∧ (vramRead s (BitVec.ofNat 14 addr)).getLsbD (7 - lx % 8) = true)

/-- R194 to R196: where it is not refused, `COMP h, line` sets the collision flag exactly when at least two
entries are opaque at the pixel, and never clears it; it emits the first opaque entry's colour, or transparent when
there is none or that colour is 0; it changes nothing else. (The meaning of
"resolved": the spec's decision D17; registers written since the evaluation are read live: D31, log 17; the admission:
D18, D30, log 12.) -/
def Obligations.CompositingEmitsFirstOpaqueAndDetectsCollision : Prop :=
  ∀ s h line, s.evalLine = some line →
    ¬ (s.cfg.spriteEngineScope = .legacyOnly ∧ s.regs.mode.getLsbD 3 = true) →
    ∃ t, exec (.comp h line) s = .next t
      ∧ (t.flags.spriteCollision = true
          ↔ s.flags.spriteCollision = true ∨ 2 ≤ (opaqueEntries s h line).length)
      ∧ t.spriteOut = some (match opaqueEntries s h line with
          | [] => .transparent
          | o :: _ => if o.color = 0 then .transparent else .color o.color)
      ∧ t.flags.spriteOverflow = s.flags.spriteOverflow ∧ t.flags.fifthSprite = s.flags.fifthSprite
      ∧ t.flags.frameIrqPending = s.flags.frameIrqPending ∧ t.flags.lineIrqPending = s.flags.lineIrqPending
      ∧ sameOutside [.flags, .spriteOut] s t

/-- R178, R198: only an evaluation or reset changes the working set and the line it is for; so after `EVAL line`
every operation other than these two leaves `COMP h, line` admitted, in the engine scope `all_modes`. (The admission
rests on R198: the spec's decisions D18 and D30, and its bookkeeping, log 12.) -/
def Obligations.WorkingSetLastsUntilTheNextEvaluation : Prop :=
  (∀ i s t, (∀ l, i ≠ .eval l) → i ≠ .reset → exec i s = .next t →
    t.sprites = s.sprites ∧ t.evalLine = s.evalLine)
    ∧ (∀ i s t u line h, exec (.eval line) s = .next t → (∀ l, i ≠ .eval l) → i ≠ .reset →
        exec i t = .next u → s.cfg.spriteEngineScope = .allModes → ∃ v, exec (.comp h line) u = .next v)

/-! ### Flags and the interrupt output -/

/-- No operation other than `RS` and reset clears a pending flag. R153 and R215 say so of the counter unit and of every
operation but `RS`; that reset may clear them too is R240, the spec's decision D29. -/
def Obligations.PendingFlagsAreClearedOnlyByStatusReadOrReset : Prop :=
  ∀ i s t, i ≠ .rs → i ≠ .reset → exec i s = .next t →
    (s.flags.frameIrqPending = true → t.flags.frameIrqPending = true)
    ∧ (s.flags.lineIrqPending = true → t.flags.lineIrqPending = true)

/-- R42, R43: outside reset, the overflow flag and index are set only by an evaluation, the collision flag only by
compositing, the pending flags only by a tick; an evaluation clears the collision flag. -/
def Obligations.StatusFlagsAreSetOnlyByTheirStage : Prop :=
  ∀ i s t, i ≠ .reset → exec i s = .next t →
    ((∀ l, i ≠ .eval l) → i ≠ .rs →
      t.flags.spriteOverflow = s.flags.spriteOverflow ∧ t.flags.fifthSprite = s.flags.fifthSprite)
    ∧ ((∀ l, i ≠ .eval l) → t.flags.spriteOverflow = true → s.flags.spriteOverflow = true)
    ∧ ((∀ h l, i ≠ .comp h l) → t.flags.spriteCollision = true → s.flags.spriteCollision = true)
    ∧ (i ≠ .tick → t.flags.frameIrqPending = true → s.flags.frameIrqPending = true)
    ∧ (i ≠ .tick → t.flags.lineIrqPending = true → s.flags.lineIrqPending = true)
    ∧ ((∃ l, i = .eval l) → t.flags.spriteCollision = false)

/-- R213, R214: the interrupt output follows a write of an enable bit at once, and the pending flags stay. (What the
enables gate: the spec's decision D28, log 13; their bits in registers 0 and 1: D3 and D4, log 13; one step for two
writes: the model's, log 3.) -/
def Obligations.InterruptOutputFollowsTheEnables : Prop :=
  ∀ s x d, s.port.ctrlPhase = false →
    (∃ t, exec (.reg0 x d) s = .next t ∧ t.flags = s.flags
      ∧ (t.irq = true ↔ (s.flags.frameIrqPending = true ∧ s.regs.frameIrqEnable = true)
          ∨ (s.flags.lineIrqPending = true ∧ d.getLsbD 4 = true)))
    ∧ (∃ t, exec (.reg1 x d) s = .next t ∧ t.flags = s.flags
      ∧ (t.irq = true ↔ (s.flags.frameIrqPending = true ∧ d.getLsbD 5 = true)
          ∨ (s.flags.lineIrqPending = true ∧ s.regs.lineIrqEnable = true)))

/-- R219, R245: from every state, `RS` lowers the interrupt output and leaves phase 0. -/
def Obligations.StatusReadLowersTheInterrupt : Prop :=
  ∀ s, ∃ t, exec .rs s = .next t ∧ t.irq = false ∧ t.port.ctrlPhase = false

/-! ### Reset -/

/-- R240: `RESET` sets every field to its `RESET_VALUES` entry, empties the working set, sets the evaluated line to
none, and changes no byte of VRAM or CRAM. (The spec's decision D29; `ctrlLow` and the model's own fields: log 11,
log 16.) -/
def Obligations.ResetRestoresTheResetValues : Prop :=
  ∀ s, ∃ t, exec .reset s = .next t
    ∧ t.regs = s.cfg.resetValues.regs ∧ t.port = s.cfg.resetValues.port
    ∧ t.flags = s.cfg.resetValues.flags ∧ t.counters = s.cfg.resetValues.counters
    ∧ t.sprites = [] ∧ t.evalLine = none
    ∧ sameOutside [.regs, .port, .flags, .counters, .sprites] s t

/-- R242: the machine after reset has display height 192, `irq` low, phase, address and code 0, and its status
read, V counter and H counter return 0, 0 and 232. The zero values are the model's choice (the spec's default
`RESET_VALUES`, log 9); the height is the spec's decision D20 (log 13), the default table log 8. -/
def Obligations.DefaultResetState : Prop :=
  vheight State.reset.regs.mode = 192 ∧ State.reset.irq = false
    ∧ State.reset.port.ctrlPhase = false ∧ State.reset.port.address = 0 ∧ State.reset.port.code = 0
    ∧ State.reset.sprites = [] ∧ State.reset.evalLine = none
    ∧ (∃ t, exec .rs State.reset = .next t ∧ t.returned = some 0)
    ∧ (∃ t, exec .rv State.reset = .next t ∧ t.returned = some 0)
    ∧ (∃ t, exec .rh State.reset = .next t ∧ t.returned = some 232)

/-! ### Whole-machine rules -/

/-- R9: no step changes the configuration. -/
def Obligations.ConfigurationNeverChanges : Prop :=
  ∀ s t, step s = .next t → t.cfg = s.cfg

/-- R64: a byte of VRAM changes only by a `WD` with code 0, 1 or 2, and a CRAM entry only by a `WD` with code 3. -/
def Obligations.MemoriesAreWrittenOnlyByWriteData : Prop :=
  ∀ i s t, exec i s = .next t →
    ((∃ a, vramRead t a ≠ vramRead s a) → (∃ d, i = .wd d) ∧ s.port.code.toNat ≤ 2)
    ∧ ((∃ j, cramRead t j ≠ cramRead s j) → (∃ d, i = .wd d) ∧ s.port.code = 3#2)

/-- R65, R110: outside reset the register file changes only through the control port, by a command that leaves
code 2. -/
def Obligations.RegisterFileIsReachedOnlyThroughTheControlPort : Prop :=
  ∀ i s t, i ≠ .reset → exec i s = .next t → t.regs ≠ s.regs →
    ((∃ d, i = .wcLo d) ∨ (∃ d, i = .wcHi d) ∨ (∃ cw, encode i = .control cw ∨ encode i = .register cw))
    ∧ t.port.code = 2#2

/-- R53, R63: the register fields that no rule reads, and CRAM, never influence anything but themselves: erasing
them before an operation changes nothing else of its result. (`spriteShift`: the spec's decision D32.) -/
def Obligations.UnreadFieldsDoNotInfluenceTheBlock : Prop :=
  ∀ i s, mapNext State.eraseUnread (exec i s.eraseUnread) = mapNext State.eraseUnread (exec i s)

/-- The machine after reset meets the invariant, whatever `H_PERIOD` is (log 6). It assumes the default
`RESET_VALUES` (the counters 0: log 9) and the default parameters (log 5; `V_PERIOD`: log 8), the model's choices. -/
def Obligations.ResetStateMeetsTheInvariant : Prop := State.reset.Inv

/-- Every step keeps the invariant: the memories' canonical form and spaces, the counters' ranges, at most four
selected sprites, each at or above the evaluated line. -/
def Obligations.StepKeepsTheInvariant : Prop :=
  ∀ s t, s.Inv → step s = .next t → t.Inv

/-- R250: an operation that keeps the scheduler's obligations of one state is not refused, in the engine scope
`all_modes`. (The obligations: the spec's decision D30, log 20; the scope: D18.) -/
def Obligations.ScheduledOperationsComplete : Prop :=
  ∀ i s, s.cfg.spriteEngineScope = .allModes → scheduled s i = true → ∃ t, exec i s = .next t
end

