-- ==== Sys2Proof/Laws/State.lean ====
section
/-!
SUPPORT. One lemma per field per update of the state, so that no later proof unfolds a record update. The name
is update_field.
-/

namespace Sys2Proof.Machine

variable (s : State)

@[simp] theorem State.setRegs_cfg (r : RegFile) : (s.setRegs r).cfg = s.cfg := rfl
@[simp] theorem State.setRegs_regs (r : RegFile) : (s.setRegs r).regs = r := rfl
@[simp] theorem State.setRegs_port (r : RegFile) : (s.setRegs r).port = s.port := rfl
@[simp] theorem State.setRegs_flags (r : RegFile) : (s.setRegs r).flags = s.flags := rfl
@[simp] theorem State.setRegs_counters (r : RegFile) : (s.setRegs r).counters = s.counters := rfl
@[simp] theorem State.setRegs_sprites (r : RegFile) : (s.setRegs r).sprites = s.sprites := rfl
@[simp] theorem State.setRegs_evalLine (r : RegFile) : (s.setRegs r).evalLine = s.evalLine := rfl
@[simp] theorem State.setRegs_vram (r : RegFile) : (s.setRegs r).vram = s.vram := rfl
@[simp] theorem State.setRegs_cram (r : RegFile) : (s.setRegs r).cram = s.cram := rfl
@[simp] theorem State.setRegs_pending (r : RegFile) : (s.setRegs r).pending = s.pending := rfl
@[simp] theorem State.setRegs_returned (r : RegFile) : (s.setRegs r).returned = s.returned := rfl
@[simp] theorem State.setRegs_spriteOut (r : RegFile) : (s.setRegs r).spriteOut = s.spriteOut := rfl

@[simp] theorem State.setPort_cfg (p : PortLatches) : (s.setPort p).cfg = s.cfg := rfl
@[simp] theorem State.setPort_regs (p : PortLatches) : (s.setPort p).regs = s.regs := rfl
@[simp] theorem State.setPort_port (p : PortLatches) : (s.setPort p).port = p := rfl
@[simp] theorem State.setPort_flags (p : PortLatches) : (s.setPort p).flags = s.flags := rfl
@[simp] theorem State.setPort_counters (p : PortLatches) : (s.setPort p).counters = s.counters := rfl
@[simp] theorem State.setPort_sprites (p : PortLatches) : (s.setPort p).sprites = s.sprites := rfl
@[simp] theorem State.setPort_evalLine (p : PortLatches) : (s.setPort p).evalLine = s.evalLine := rfl
@[simp] theorem State.setPort_vram (p : PortLatches) : (s.setPort p).vram = s.vram := rfl
@[simp] theorem State.setPort_cram (p : PortLatches) : (s.setPort p).cram = s.cram := rfl
@[simp] theorem State.setPort_pending (p : PortLatches) : (s.setPort p).pending = s.pending := rfl
@[simp] theorem State.setPort_returned (p : PortLatches) : (s.setPort p).returned = s.returned := rfl
@[simp] theorem State.setPort_spriteOut (p : PortLatches) : (s.setPort p).spriteOut = s.spriteOut := rfl

@[simp] theorem State.setFlags_cfg (f : StatusFlags) : (s.setFlags f).cfg = s.cfg := rfl
@[simp] theorem State.setFlags_regs (f : StatusFlags) : (s.setFlags f).regs = s.regs := rfl
@[simp] theorem State.setFlags_port (f : StatusFlags) : (s.setFlags f).port = s.port := rfl
@[simp] theorem State.setFlags_flags (f : StatusFlags) : (s.setFlags f).flags = f := rfl
@[simp] theorem State.setFlags_counters (f : StatusFlags) : (s.setFlags f).counters = s.counters := rfl
@[simp] theorem State.setFlags_sprites (f : StatusFlags) : (s.setFlags f).sprites = s.sprites := rfl
@[simp] theorem State.setFlags_evalLine (f : StatusFlags) : (s.setFlags f).evalLine = s.evalLine := rfl
@[simp] theorem State.setFlags_vram (f : StatusFlags) : (s.setFlags f).vram = s.vram := rfl
@[simp] theorem State.setFlags_cram (f : StatusFlags) : (s.setFlags f).cram = s.cram := rfl
@[simp] theorem State.setFlags_pending (f : StatusFlags) : (s.setFlags f).pending = s.pending := rfl
@[simp] theorem State.setFlags_returned (f : StatusFlags) : (s.setFlags f).returned = s.returned := rfl
@[simp] theorem State.setFlags_spriteOut (f : StatusFlags) : (s.setFlags f).spriteOut = s.spriteOut := rfl

@[simp] theorem State.setCounters_cfg (c : Counters) : (s.setCounters c).cfg = s.cfg := rfl
@[simp] theorem State.setCounters_regs (c : Counters) : (s.setCounters c).regs = s.regs := rfl
@[simp] theorem State.setCounters_port (c : Counters) : (s.setCounters c).port = s.port := rfl
@[simp] theorem State.setCounters_flags (c : Counters) : (s.setCounters c).flags = s.flags := rfl
@[simp] theorem State.setCounters_counters (c : Counters) : (s.setCounters c).counters = c := rfl
@[simp] theorem State.setCounters_sprites (c : Counters) : (s.setCounters c).sprites = s.sprites := rfl
@[simp] theorem State.setCounters_evalLine (c : Counters) : (s.setCounters c).evalLine = s.evalLine := rfl
@[simp] theorem State.setCounters_vram (c : Counters) : (s.setCounters c).vram = s.vram := rfl
@[simp] theorem State.setCounters_cram (c : Counters) : (s.setCounters c).cram = s.cram := rfl
@[simp] theorem State.setCounters_pending (c : Counters) : (s.setCounters c).pending = s.pending := rfl
@[simp] theorem State.setCounters_returned (c : Counters) : (s.setCounters c).returned = s.returned := rfl
@[simp] theorem State.setCounters_spriteOut (c : Counters) : (s.setCounters c).spriteOut = s.spriteOut := rfl

@[simp] theorem State.setSprites_cfg (o : Option Nat) (l : List SpriteEntry) : (s.setSprites o l).cfg = s.cfg := rfl
@[simp] theorem State.setSprites_regs (o : Option Nat) (l : List SpriteEntry) : (s.setSprites o l).regs = s.regs := rfl
@[simp] theorem State.setSprites_port (o : Option Nat) (l : List SpriteEntry) : (s.setSprites o l).port = s.port := rfl
@[simp] theorem State.setSprites_flags (o : Option Nat) (l : List SpriteEntry) : (s.setSprites o l).flags = s.flags := rfl
@[simp] theorem State.setSprites_counters (o : Option Nat) (l : List SpriteEntry) : (s.setSprites o l).counters = s.counters := rfl
@[simp] theorem State.setSprites_sprites (o : Option Nat) (l : List SpriteEntry) : (s.setSprites o l).sprites = l := rfl
@[simp] theorem State.setSprites_evalLine (o : Option Nat) (l : List SpriteEntry) : (s.setSprites o l).evalLine = o := rfl
@[simp] theorem State.setSprites_vram (o : Option Nat) (l : List SpriteEntry) : (s.setSprites o l).vram = s.vram := rfl
@[simp] theorem State.setSprites_cram (o : Option Nat) (l : List SpriteEntry) : (s.setSprites o l).cram = s.cram := rfl
@[simp] theorem State.setSprites_pending (o : Option Nat) (l : List SpriteEntry) : (s.setSprites o l).pending = s.pending := rfl
@[simp] theorem State.setSprites_returned (o : Option Nat) (l : List SpriteEntry) : (s.setSprites o l).returned = s.returned := rfl
@[simp] theorem State.setSprites_spriteOut (o : Option Nat) (l : List SpriteEntry) : (s.setSprites o l).spriteOut = s.spriteOut := rfl

@[simp] theorem State.writeVram_cfg (a : VramAddr) (v : Byte) : (s.writeVram a v).cfg = s.cfg := rfl
@[simp] theorem State.writeVram_regs (a : VramAddr) (v : Byte) : (s.writeVram a v).regs = s.regs := rfl
@[simp] theorem State.writeVram_port (a : VramAddr) (v : Byte) : (s.writeVram a v).port = s.port := rfl
@[simp] theorem State.writeVram_flags (a : VramAddr) (v : Byte) : (s.writeVram a v).flags = s.flags := rfl
@[simp] theorem State.writeVram_counters (a : VramAddr) (v : Byte) : (s.writeVram a v).counters = s.counters := rfl
@[simp] theorem State.writeVram_sprites (a : VramAddr) (v : Byte) : (s.writeVram a v).sprites = s.sprites := rfl
@[simp] theorem State.writeVram_evalLine (a : VramAddr) (v : Byte) : (s.writeVram a v).evalLine = s.evalLine := rfl
@[simp] theorem State.writeVram_vram (a : VramAddr) (v : Byte) : (s.writeVram a v).vram = writeCell s.vram a.toNat v := rfl
@[simp] theorem State.writeVram_cram (a : VramAddr) (v : Byte) : (s.writeVram a v).cram = s.cram := rfl
@[simp] theorem State.writeVram_pending (a : VramAddr) (v : Byte) : (s.writeVram a v).pending = s.pending := rfl
@[simp] theorem State.writeVram_returned (a : VramAddr) (v : Byte) : (s.writeVram a v).returned = s.returned := rfl
@[simp] theorem State.writeVram_spriteOut (a : VramAddr) (v : Byte) : (s.writeVram a v).spriteOut = s.spriteOut := rfl

@[simp] theorem State.writeCram_cfg (i : Nat) (v : Byte) : (s.writeCram i v).cfg = s.cfg := rfl
@[simp] theorem State.writeCram_regs (i : Nat) (v : Byte) : (s.writeCram i v).regs = s.regs := rfl
@[simp] theorem State.writeCram_port (i : Nat) (v : Byte) : (s.writeCram i v).port = s.port := rfl
@[simp] theorem State.writeCram_flags (i : Nat) (v : Byte) : (s.writeCram i v).flags = s.flags := rfl
@[simp] theorem State.writeCram_counters (i : Nat) (v : Byte) : (s.writeCram i v).counters = s.counters := rfl
@[simp] theorem State.writeCram_sprites (i : Nat) (v : Byte) : (s.writeCram i v).sprites = s.sprites := rfl
@[simp] theorem State.writeCram_evalLine (i : Nat) (v : Byte) : (s.writeCram i v).evalLine = s.evalLine := rfl
@[simp] theorem State.writeCram_vram (i : Nat) (v : Byte) : (s.writeCram i v).vram = s.vram := rfl
@[simp] theorem State.writeCram_cram (i : Nat) (v : Byte) : (s.writeCram i v).cram = writeCell s.cram i v := rfl
@[simp] theorem State.writeCram_pending (i : Nat) (v : Byte) : (s.writeCram i v).pending = s.pending := rfl
@[simp] theorem State.writeCram_returned (i : Nat) (v : Byte) : (s.writeCram i v).returned = s.returned := rfl
@[simp] theorem State.writeCram_spriteOut (i : Nat) (v : Byte) : (s.writeCram i v).spriteOut = s.spriteOut := rfl

@[simp] theorem State.returnByte_cfg (v : Byte) : (s.returnByte v).cfg = s.cfg := rfl
@[simp] theorem State.returnByte_regs (v : Byte) : (s.returnByte v).regs = s.regs := rfl
@[simp] theorem State.returnByte_port (v : Byte) : (s.returnByte v).port = s.port := rfl
@[simp] theorem State.returnByte_flags (v : Byte) : (s.returnByte v).flags = s.flags := rfl
@[simp] theorem State.returnByte_counters (v : Byte) : (s.returnByte v).counters = s.counters := rfl
@[simp] theorem State.returnByte_sprites (v : Byte) : (s.returnByte v).sprites = s.sprites := rfl
@[simp] theorem State.returnByte_evalLine (v : Byte) : (s.returnByte v).evalLine = s.evalLine := rfl
@[simp] theorem State.returnByte_vram (v : Byte) : (s.returnByte v).vram = s.vram := rfl
@[simp] theorem State.returnByte_cram (v : Byte) : (s.returnByte v).cram = s.cram := rfl
@[simp] theorem State.returnByte_pending (v : Byte) : (s.returnByte v).pending = s.pending := rfl
@[simp] theorem State.returnByte_returned (v : Byte) : (s.returnByte v).returned = some v := rfl
@[simp] theorem State.returnByte_spriteOut (v : Byte) : (s.returnByte v).spriteOut = s.spriteOut := rfl

@[simp] theorem State.emit_cfg (x : Pixel) : (s.emit x).cfg = s.cfg := rfl
@[simp] theorem State.emit_regs (x : Pixel) : (s.emit x).regs = s.regs := rfl
@[simp] theorem State.emit_port (x : Pixel) : (s.emit x).port = s.port := rfl
@[simp] theorem State.emit_flags (x : Pixel) : (s.emit x).flags = s.flags := rfl
@[simp] theorem State.emit_counters (x : Pixel) : (s.emit x).counters = s.counters := rfl
@[simp] theorem State.emit_sprites (x : Pixel) : (s.emit x).sprites = s.sprites := rfl
@[simp] theorem State.emit_evalLine (x : Pixel) : (s.emit x).evalLine = s.evalLine := rfl
@[simp] theorem State.emit_vram (x : Pixel) : (s.emit x).vram = s.vram := rfl
@[simp] theorem State.emit_cram (x : Pixel) : (s.emit x).cram = s.cram := rfl
@[simp] theorem State.emit_pending (x : Pixel) : (s.emit x).pending = s.pending := rfl
@[simp] theorem State.emit_returned (x : Pixel) : (s.emit x).returned = s.returned := rfl
@[simp] theorem State.emit_spriteOut (x : Pixel) : (s.emit x).spriteOut = some x := rfl

@[simp] theorem State.setPending_cfg (q : List OpWord) : (s.setPending q).cfg = s.cfg := rfl
@[simp] theorem State.setPending_regs (q : List OpWord) : (s.setPending q).regs = s.regs := rfl
@[simp] theorem State.setPending_port (q : List OpWord) : (s.setPending q).port = s.port := rfl
@[simp] theorem State.setPending_flags (q : List OpWord) : (s.setPending q).flags = s.flags := rfl
@[simp] theorem State.setPending_counters (q : List OpWord) : (s.setPending q).counters = s.counters := rfl
@[simp] theorem State.setPending_sprites (q : List OpWord) : (s.setPending q).sprites = s.sprites := rfl
@[simp] theorem State.setPending_evalLine (q : List OpWord) : (s.setPending q).evalLine = s.evalLine := rfl
@[simp] theorem State.setPending_vram (q : List OpWord) : (s.setPending q).vram = s.vram := rfl
@[simp] theorem State.setPending_cram (q : List OpWord) : (s.setPending q).cram = s.cram := rfl
@[simp] theorem State.setPending_pending (q : List OpWord) : (s.setPending q).pending = q := rfl
@[simp] theorem State.setPending_returned (q : List OpWord) : (s.setPending q).returned = s.returned := rfl
@[simp] theorem State.setPending_spriteOut (q : List OpWord) : (s.setPending q).spriteOut = s.spriteOut := rfl

/-- Issuing an operation and taking it away again leaves the state. -/
@[simp] theorem State.setPending_pending_self (q : List OpWord) :
    (s.setPending q).setPending s.pending = s := rfl

end Sys2Proof.Machine
end

