-- ==== Sys2Proof/Laws/Memory.lean ====
section
/-!
SUPPORT. The laws of the memories: a read after a write, and that a write keeps the canonical form and the space
(spec/20_memory.md R61, R63).
-/

namespace Sys2Proof.Machine

/-- A read after a write: the written byte at the written address, the old one everywhere else. -/
theorem readCell_writeCell (m : Memory) (a b : Nat) (v : Byte) :
    readCell (writeCell m a v) b = if b = a then some v else readCell m b := by
  induction m with
  | nil => simp [writeCell, readCell]
  | cons c rest ih =>
    obtain ⟨k, w⟩ := c
    unfold writeCell
    split
    · simp [readCell]
    · split
      · subst_vars
        by_cases hb : b = k <;> simp [readCell, hb]
      · by_cases hb : b = k
        · subst hb
          simp only [readCell, if_true]
          rw [if_neg (by omega)]
        · simp [readCell, hb, ih]

/-- Every address a write lists was listed before or is the written one. -/
theorem mem_writeCell {m : Memory} {a : Nat} {v : Byte} {c : Host.Cell} (h : c ∈ writeCell m a v) :
    c = (a, v) ∨ c ∈ m := by
  induction m with
  | nil => simpa [writeCell] using h
  | cons d rest ih =>
    obtain ⟨k, w⟩ := d
    unfold writeCell at h
    split at h
    · simpa using h
    · split at h
      · rcases List.mem_cons.1 h with h | h
        · exact .inl h
        · exact .inr (List.mem_cons_of_mem _ h)
      · rcases List.mem_cons.1 h with h | h
        · exact .inr (h ▸ List.mem_cons_self)
        · exact (ih h).imp id (List.mem_cons_of_mem _)

/-- A write keeps the canonical form. -/
theorem writeCell_wf {m : Memory} (h : Memory.wf m) (a : Nat) (v : Byte) : Memory.wf (writeCell m a v) := by
  induction m with
  | nil => simp [writeCell, Memory.wf]
  | cons c rest ih =>
    obtain ⟨k, w⟩ := c
    obtain ⟨hk, hr⟩ := List.pairwise_cons.1 h
    unfold writeCell
    split
    · rename_i hlt
      refine List.pairwise_cons.2 ⟨fun d hd => ?_, h⟩
      rcases List.mem_cons.1 hd with rfl | hd
      · exact hlt
      · exact Nat.lt_trans hlt (hk d hd)
    · split
      · subst_vars
        exact List.pairwise_cons.2 ⟨hk, hr⟩
      · refine List.pairwise_cons.2 ⟨fun d hd => ?_, ih hr⟩
        rcases mem_writeCell hd with rfl | hd
        · show k < a
          omega
        · exact hk d hd

/-- A write inside a space keeps every listed address inside it. -/
theorem writeCell_within {m : Memory} {size : Nat} (h : Memory.within size m) {a : Nat} (ha : a < size) (v : Byte) :
    Memory.within size (writeCell m a v) := by
  intro c hc
  rcases mem_writeCell hc with rfl | hc
  · exact ha
  · exact h c hc

/-- VRAM reads depend on VRAM and, through the draw of its power-up contents, on the configuration alone. -/
theorem vramRead_congr {s t : State} (hc : t.cfg = s.cfg) (h : t.vram = s.vram) (a : VramAddr) :
    vramRead t a = vramRead s a := by
  simp [vramRead, hc, h]

/-- CRAM reads depend on CRAM and, through the draw of its power-up contents, on the configuration alone. -/
theorem cramRead_congr {s t : State} (hc : t.cfg = s.cfg) (h : t.cram = s.cram) (i : Nat) :
    cramRead t i = cramRead s i := by
  simp [cramRead, hc, h]

/-- A VRAM read after a VRAM write (20_memory.md R61). -/
theorem vramRead_writeVram (s : State) (a b : VramAddr) (v : Byte) :
    vramRead (s.writeVram a v) b = if b = a then v else vramRead s b := by
  unfold vramRead
  rw [State.writeVram_vram, State.writeVram_cfg, readCell_writeCell]
  by_cases h : b = a
  · simp [h]
  · rw [if_neg (fun e => h (BitVec.eq_of_toNat_eq e)), if_neg h]

/-- A CRAM read after a CRAM write (20_memory.md R63). -/
theorem cramRead_writeCram (s : State) (i j : Nat) (v : Byte) :
    cramRead (s.writeCram i v) j = if j = i then v else cramRead s j := by
  unfold cramRead
  rw [State.writeCram_cram, State.writeCram_cfg, readCell_writeCell]
  by_cases h : j = i <;> simp [h]

/-! The updates that leave a memory's reads as they are. -/

variable (s : State)

@[simp] theorem vramRead_setRegs (r : RegFile) (a : VramAddr) : vramRead (s.setRegs r) a = vramRead s a := rfl
@[simp] theorem vramRead_setPort (p : PortLatches) (a : VramAddr) : vramRead (s.setPort p) a = vramRead s a := rfl
@[simp] theorem vramRead_setFlags (f : StatusFlags) (a : VramAddr) : vramRead (s.setFlags f) a = vramRead s a := rfl
@[simp] theorem vramRead_setCounters (c : Counters) (a : VramAddr) : vramRead (s.setCounters c) a = vramRead s a := rfl
@[simp] theorem vramRead_setSprites (o : Option Nat) (l : List SpriteEntry) (a : VramAddr) : vramRead (s.setSprites o l) a = vramRead s a := rfl
@[simp] theorem vramRead_returnByte (v : Byte) (a : VramAddr) : vramRead (s.returnByte v) a = vramRead s a := rfl
@[simp] theorem vramRead_emit (x : Pixel) (a : VramAddr) : vramRead (s.emit x) a = vramRead s a := rfl
@[simp] theorem vramRead_setPending (q : List OpWord) (a : VramAddr) : vramRead (s.setPending q) a = vramRead s a := rfl
@[simp] theorem vramRead_writeCram (i : Nat) (v : Byte) (a : VramAddr) : vramRead (s.writeCram i v) a = vramRead s a := rfl

@[simp] theorem cramRead_setRegs (r : RegFile) (j : Nat) : cramRead (s.setRegs r) j = cramRead s j := rfl
@[simp] theorem cramRead_setPort (p : PortLatches) (j : Nat) : cramRead (s.setPort p) j = cramRead s j := rfl
@[simp] theorem cramRead_setFlags (f : StatusFlags) (j : Nat) : cramRead (s.setFlags f) j = cramRead s j := rfl
@[simp] theorem cramRead_setCounters (c : Counters) (j : Nat) : cramRead (s.setCounters c) j = cramRead s j := rfl
@[simp] theorem cramRead_setSprites (o : Option Nat) (l : List SpriteEntry) (j : Nat) : cramRead (s.setSprites o l) j = cramRead s j := rfl
@[simp] theorem cramRead_returnByte (v : Byte) (j : Nat) : cramRead (s.returnByte v) j = cramRead s j := rfl
@[simp] theorem cramRead_emit (x : Pixel) (j : Nat) : cramRead (s.emit x) j = cramRead s j := rfl
@[simp] theorem cramRead_setPending (q : List OpWord) (j : Nat) : cramRead (s.setPending q) j = cramRead s j := rfl
@[simp] theorem cramRead_writeVram (a : VramAddr) (v : Byte) (j : Nat) : cramRead (s.writeVram a v) j = cramRead s j := rfl

end Sys2Proof.Machine
end

