-- ==== Sys2Proof/Laws/Words.lean ====
section
/-!
SUPPORT. The fields of concatenated words, and from them the fields of each word format
(spec/30_encoding.md R81 to R86).
-/

namespace Sys2Proof

/-- The low part of a concatenation. -/
theorem extract_low {m n : Nat} (a : BitVec m) (b : BitVec n) : (a ++ b).extractLsb' 0 n = b := by
  ext i hi
  simp [BitVec.getLsbD_append, hi, BitVec.getLsbD_eq_getElem]

/-- A field of the low part of a concatenation. -/
theorem extract_in_low {m n : Nat} (a : BitVec m) (b : BitVec n) {i k : Nat} (h : i + k ≤ n) :
    (a ++ b).extractLsb' i k = b.extractLsb' i k := by
  ext j hj
  have : i + j < n := by omega
  simp [BitVec.getLsbD_append, this]

/-- A field of the high part of a concatenation. -/
theorem extract_in_high {m n : Nat} (a : BitVec m) (b : BitVec n) {i k : Nat} (h : n ≤ i) :
    (a ++ b).extractLsb' i k = a.extractLsb' (i - n) k := by
  ext j hj
  have h₁ : ¬ i + j < n := by omega
  have h₂ : i + j - n = i - n + j := by omega
  simp [BitVec.getLsbD_append, h₁, h₂]

/-- The whole of a bit vector. -/
theorem extract_all {n : Nat} (a : BitVec n) : a.extractLsb' 0 n = a := by
  ext i hi
  simp

variable (sel : BitVec 3) (code sel2 x : BitVec 2) (r : BitVec 4) (d h : Byte) (a : VramAddr) (l : BitVec 9)

theorem hostBits_selector : (sel ++ d : BitVec 11).extractLsb' 8 3 = sel := by
  rw [extract_in_high _ _ (Nat.le_refl 8)]; exact extract_all sel

theorem hostBits_byte : (sel ++ d : BitVec 11).extractLsb' 0 8 = d := extract_low sel d

theorem controlWord_code : (controlWord code a).extractLsb' 14 2 = code := by
  unfold controlWord
  rw [extract_in_high _ _ (Nat.le_refl 14)]; exact extract_all code

theorem controlWord_address : (controlWord code a).extractLsb' 0 14 = a := extract_low code a

theorem registerWord_code : (registerWord x r d).extractLsb' 14 2 = 2#2 := by
  unfold registerWord
  rw [extract_in_high _ _ (by decide), extract_in_high _ _ (by decide), extract_in_high _ _ (by decide)]
  exact extract_all _

theorem registerWord_ignored : (registerWord x r d).extractLsb' 12 2 = x := by
  unfold registerWord
  rw [extract_in_high _ _ (by decide), extract_in_high _ _ (by decide), extract_in_low _ _ (by decide)]
  exact extract_all x

theorem registerWord_index : (registerWord x r d).extractLsb' 8 4 = r := by
  unfold registerWord
  rw [extract_in_high _ _ (by decide), extract_in_low _ _ (by decide)]
  exact extract_all r

theorem registerWord_data : (registerWord x r d).extractLsb' 0 8 = d := by
  unfold registerWord
  exact extract_low _ d

theorem videoBits_selector : (sel2 ++ l ++ h : BitVec 19).extractLsb' 17 2 = sel2 := by
  rw [extract_in_high _ _ (by decide), extract_in_high _ _ (by decide)]
  exact extract_all sel2

theorem videoBits_line : (sel2 ++ l ++ h : BitVec 19).extractLsb' 8 9 = l := by
  rw [extract_in_high _ _ (by decide), extract_in_low _ _ (by decide)]
  exact extract_all l

theorem videoBits_offset : (sel2 ++ l ++ h : BitVec 19).extractLsb' 0 8 = h := extract_low (sel2 ++ l) h

end Sys2Proof
end

