-- ==== Sys2Proof/Laws/Operands.lean ====
section
/-!
SUPPORT. One lemma per operand form, flag computation and register write: its value in the spec's arithmetic on
natural numbers (spec/30_encoding.md R83 to R91, spec/10_state.md R38, R48, R49).
-/

namespace Sys2Proof.Machine

/-- A field of a bit vector as a number. -/
theorem toNat_extract {n : Nat} (v : BitVec n) (i k : Nat) : (v.extractLsb' i k).toNat = v.toNat / 2 ^ i % 2 ^ k := by
  simp [BitVec.extractLsb'_toNat, Nat.shiftRight_eq_div_pow]

/-- A concatenation as a number. -/
theorem toNat_append' {m n : Nat} (a : BitVec m) (b : BitVec n) : (a ++ b).toNat = a.toNat * 2 ^ n + b.toNat := by
  rw [BitVec.toNat_append, Nat.shiftLeft_eq, Nat.mul_comm, Nat.two_pow_add_eq_or_of_lt b.isLt]

/-- The incremented address (10_state.md R38). -/
theorem nextAddress_toNat (a : VramAddr) : (nextAddress a).toNat = (a.toNat + 1) % 16384 := by
  simp [nextAddress, BitVec.toNat_add]

theorem composeAddress_toNat (d low : Byte) : (composeAddress d low).toNat = d.toNat % 64 * 256 + low.toNat := by
  rw [composeAddress, toNat_append', toNat_extract]; simp

theorem accessCode_toNat (d : Byte) : (accessCode d).toNat = d.toNat / 64 := by
  rw [accessCode, toNat_extract]; have := d.isLt; omega

theorem withLowByte_toNat (a : VramAddr) (d : Byte) : (withLowByte a d).toNat = a.toNat / 256 * 256 + d.toNat := by
  rw [withLowByte, toNat_append', toNat_extract]; have := a.isLt; omega

theorem lowByteOf_toNat (a : VramAddr) : (lowByteOf a).toNat = a.toNat % 256 := by
  rw [lowByteOf, toNat_extract]; simp

/-- Replacing the low byte makes it the low byte. -/
@[simp] theorem lowByteOf_withLowByte (a : VramAddr) (d : Byte) : lowByteOf (withLowByte a d) = d := extract_low _ d

@[simp] theorem lowByteOf_composeAddress (d low : Byte) : lowByteOf (composeAddress d low) = low := extract_low _ low

theorem registerIndex_toNat (a : VramAddr) : (registerIndex a).toNat = a.toNat / 256 % 16 := by
  rw [registerIndex, toNat_extract]; rfl

theorem satBase_toNat (r : RegFile) : (satBase r).toNat = r.spriteAttrBase.toNat * 128 := by
  rw [satBase, toNat_append']; simp

theorem patternBase_toNat (r : RegFile) : (patternBase r).toNat = r.spritePatternBase.toNat * 2048 := by
  rw [patternBase, toNat_append']; simp

/-- The four sprite extents (10_state.md R49). -/
theorem spriteLimit_eq (r : RegFile) :
    spriteLimit r = if r.spriteSize && r.spriteZoom then 31 else if r.spriteSize || r.spriteZoom then 15 else 7 := by
  cases hs : r.spriteSize <;> cases hz : r.spriteZoom <;> simp [spriteLimit, hs, hz]

/-- Which positions a sprite's extent covers (42_sprite_evaluation.md R174, 43_sprite_compositing.md R191). -/
theorem covers_iff (c : Config) (limit : Nat) (start : Byte) (pos : Nat) :
    covers c limit start pos = true ↔ start.toNat ≤ pos ∧
      pos ≤ if c.spriteSumMod256 then (start.toNat + limit) % 256 else start.toNat + limit := by
  simp only [covers, Bool.and_eq_true, decide_eq_true_eq]
  rfl

/-- The bits of a composed mode selector (10_state.md R26). -/
theorem modeOf_bits (b3 b2 b1 b0 : Bool) :
    (modeOf b3 b2 b1 b0).getLsbD 0 = b0 ∧ (modeOf b3 b2 b1 b0).getLsbD 1 = b1
      ∧ (modeOf b3 b2 b1 b0).getLsbD 2 = b2 ∧ (modeOf b3 b2 b1 b0).getLsbD 3 = b3 := by
  revert b3 b2 b1 b0; decide

/-- The fields of the status byte (30_encoding.md R88). -/
theorem statusByte_fields (f : StatusFlags) :
    (statusByte f).getLsbD 7 = f.frameIrqPending ∧ (statusByte f).getLsbD 6 = f.spriteOverflow
      ∧ (statusByte f).getLsbD 5 = f.spriteCollision ∧ (statusByte f).toNat % 32 = f.fifthSprite.toNat := by
  refine ⟨?_, ?_, ?_, ?_⟩
  · show BitVec.getLsbD (w := 1 + 1 + 1 + 5) (_ ++ _) 7 = f.frameIrqPending
    simp only [BitVec.getLsbD_append, BitVec.getLsbD_ofBool]; simp
  · show BitVec.getLsbD (w := 1 + 1 + 1 + 5) (_ ++ _) 6 = f.spriteOverflow
    simp only [BitVec.getLsbD_append, BitVec.getLsbD_ofBool]; simp
  · show BitVec.getLsbD (w := 1 + 1 + 1 + 5) (_ ++ _) 5 = f.spriteCollision
    simp only [BitVec.getLsbD_append, BitVec.getLsbD_ofBool]; simp
  · have h : (statusByte f).extractLsb' 0 5 = f.fifthSprite := extract_low _ f.fifthSprite
    rw [← h, toNat_extract]; simp

/-- A line start sets pending flags and clears none (41_counters.md R153). -/
@[simp] theorem lineStartFlags_fields (f : StatusFlags) (u l : Bool) :
    (lineStartFlags f u l).lineIrqPending = (f.lineIrqPending || u)
      ∧ (lineStartFlags f u l).frameIrqPending = (f.frameIrqPending || l)
      ∧ (lineStartFlags f u l).spriteOverflow = f.spriteOverflow
      ∧ (lineStartFlags f u l).spriteCollision = f.spriteCollision
      ∧ (lineStartFlags f u l).fifthSprite = f.fifthSprite := ⟨rfl, rfl, rfl, rfl, rfl⟩

end Sys2Proof.Machine
end

