-- ==== Sys2Proof/Laws/Counters.lean ====
section
/-!
SUPPORT. What the counter unit's operations can do, said once (spec/41_counters.md R140 to R153).
-/

namespace Sys2Proof.Machine

variable (s : State)

/-- What a line start leaves unchanged (R150). -/
theorem lineStart_fields :
    (lineStart s).cfg = s.cfg ∧ (lineStart s).regs = s.regs ∧ (lineStart s).port = s.port
      ∧ (lineStart s).counters.hPixel = s.counters.hPixel ∧ (lineStart s).counters.vLine = s.counters.vLine
      ∧ (lineStart s).counters.hLatchRaw = s.counters.hLatchRaw ∧ (lineStart s).sprites = s.sprites
      ∧ (lineStart s).evalLine = s.evalLine ∧ (lineStart s).vram = s.vram ∧ (lineStart s).cram = s.cram
      ∧ (lineStart s).pending = s.pending ∧ (lineStart s).returned = s.returned
      ∧ (lineStart s).spriteOut = s.spriteOut := by
  simp [lineStart]

/-- The first tick of a line starts it and advances (R140). -/
theorem tick_line_start (h : s.counters.hPixel = 0) :
    tick s = (lineStart s).setCounters (advanceRaw s.cfg (lineStart s).counters) := by
  unfold tick; rw [if_pos h]

/-- Every other tick only advances (R140). -/
theorem tick_within_line (h : s.counters.hPixel ≠ 0) :
    tick s = s.setCounters (advanceRaw s.cfg s.counters) := by
  unfold tick; rw [if_neg h]

/-- The advance touches the raw counters only (R140). -/
theorem advanceRaw_fields (c : Config) (n : Counters) :
    (advanceRaw c n).hLatchRaw = n.hLatchRaw ∧ (advanceRaw c n).lineCounter = n.lineCounter := by
  unfold advanceRaw
  split <;> simp

/-- The raw counters after an advance, for a pixel counter in its range (R140, R141). -/
theorem advanceRaw_raw (c : Config) (n : Counters) (h : n.hPixel.toNat < c.hPeriod) (hp : c.hPeriod ≤ 65536) :
    (advanceRaw c n).hPixel.toNat = (if n.hPixel.toNat + 1 = c.hPeriod then 0 else n.hPixel.toNat + 1)
      ∧ (advanceRaw c n).vLine = (if n.hPixel.toNat + 1 = c.hPeriod then (n.vLine + 1) % vPeriod c else n.vLine) := by
  unfold advanceRaw
  split
  · simp
  · refine ⟨?_, rfl⟩
    show (n.hPixel + 1#16).toNat = _
    rw [BitVec.toNat_add]
    show (n.hPixel.toNat + 1) % 65536 = _
    omega

/-- What a tick leaves unchanged (R140). -/
theorem tick_fields :
    (tick s).cfg = s.cfg ∧ (tick s).regs = s.regs ∧ (tick s).port = s.port ∧ (tick s).sprites = s.sprites
      ∧ (tick s).evalLine = s.evalLine ∧ (tick s).vram = s.vram ∧ (tick s).cram = s.cram
      ∧ (tick s).pending = s.pending ∧ (tick s).returned = s.returned ∧ (tick s).spriteOut = s.spriteOut
      ∧ (tick s).counters.hLatchRaw = s.counters.hLatchRaw := by
  by_cases h : s.counters.hPixel = 0
  · rw [tick_line_start s h]
    simp [lineStart_fields s, (advanceRaw_fields s.cfg (lineStart s).counters).1]
  · rw [tick_within_line s h]
    simp [(advanceRaw_fields s.cfg s.counters).1]

/-- A tick clears no pending flag and leaves the sprite flags (R153). -/
theorem tick_flags :
    (s.flags.frameIrqPending = true → (tick s).flags.frameIrqPending = true)
      ∧ (s.flags.lineIrqPending = true → (tick s).flags.lineIrqPending = true)
      ∧ (tick s).flags.spriteOverflow = s.flags.spriteOverflow
      ∧ (tick s).flags.spriteCollision = s.flags.spriteCollision
      ∧ (tick s).flags.fifthSprite = s.flags.fifthSprite := by
  by_cases h : s.counters.hPixel = 0
  · rw [tick_line_start s h]
    simp only [State.setCounters_flags, lineStart, State.setFlags_flags]
    obtain ⟨h₁, h₂, h₃, h₄, h₅⟩ := lineStartFlags_fields s.flags
      (lineCounterNext s.cfg s.counters.lineCounter s.regs.lineReload s.counters.vLine
        (heightLines (displayHeight s.regs.mode))).2
      (decide (s.counters.vLine = frameIrqLine s.cfg (displayHeight s.regs.mode)))
    exact ⟨fun h => by rw [h₂, h]; rfl, fun h => by rw [h₁, h]; rfl, h₃, h₄, h₅⟩
  · rw [tick_within_line s h]
    exact ⟨id, id, rfl, rfl, rfl⟩

end Sys2Proof.Machine
end

