-- ==== Sys2Proof/Laws/PerInstr.lean ====
section
/-!
SUPPORT. Facts about every operation as syntax, one lemma per constructor. Family `TableBits`: an operation's word
has the bits that spec/opcode_table.json fixes for its row (its "match" under its "mask").
-/

namespace Sys2Proof.Laws.TableBits

open Sys2Proof

/-- A host word carries the selector of its row (mask 0x700). -/
def hostFixed (sel : BitVec 3) : OpWord → Prop
  | .host w => w.extractLsb' 8 3 = sel
  | .control _ | .register _ | .video _ => False

/-- A control word carries the code of its row (mask 0xC000). -/
def controlFixed (code : BitVec 2) : OpWord → Prop
  | .control w => w.extractLsb' 14 2 = code
  | .host _ | .register _ | .video _ => False

/-- A register word carries code 2 and the index of its row (mask 0xCF00). -/
def registerFixed (r : BitVec 4) : OpWord → Prop
  | .register w => w.extractLsb' 14 2 = 2#2 ∧ w.extractLsb' 8 4 = r
  | .host _ | .control _ | .video _ => False

/-- A video word carries the selector of its row (mask 0x60000). -/
def videoFixed (sel : BitVec 2) : OpWord → Prop
  | .video w => w.extractLsb' 17 2 = sel
  | .host _ | .control _ | .register _ => False

/-- The fixed bits of the row of an operation. -/
def fixedBits : Instr → OpWord → Prop
  | .rd => hostFixed 0
  | .rs => hostFixed 1
  | .wd _ => hostFixed 2
  | .wcLo _ => hostFixed 3
  | .wcHi _ => hostFixed 3
  | .rv => hostFixed 4
  | .rh => hostFixed 5
  | .lh => hostFixed 6
  | .vread _ => controlFixed 0
  | .vwrite _ => controlFixed 1
  | .setreg _ _ _ => controlFixed 2
  | .cwrite _ => controlFixed 3
  | .reg0 _ _ => registerFixed 0
  | .reg1 _ _ => registerFixed 1
  | .reg2 _ _ => registerFixed 2
  | .reg3 _ _ => registerFixed 3
  | .reg4 _ _ => registerFixed 4
  | .reg5 _ _ => registerFixed 5
  | .reg6 _ _ => registerFixed 6
  | .reg7 _ _ => registerFixed 7
  | .reg8 _ _ => registerFixed 8
  | .reg9 _ _ => registerFixed 9
  | .regA _ _ => registerFixed 10
  | .regB _ _ => registerFixed 11
  | .regC _ _ => registerFixed 12
  | .regD _ _ => registerFixed 13
  | .regE _ _ => registerFixed 14
  | .regF _ _ => registerFixed 15
  | .tick => videoFixed 0
  | .eval _ => videoFixed 1
  | .comp _ _ => videoFixed 2
  | .reset => videoFixed 3

/-- An operation's word has the fixed bits of its row. -/
def Statement (i : Instr) : Prop := fixedBits i (encode i)

theorem rd : Statement .rd := hostBits_selector _ 0

theorem rs : Statement .rs := hostBits_selector _ 0

theorem wd (d : Byte) : Statement (.wd d) := hostBits_selector _ d

theorem wcLo (d : Byte) : Statement (.wcLo d) := hostBits_selector _ d

theorem wcHi (d : Byte) : Statement (.wcHi d) := hostBits_selector _ d

theorem rv : Statement .rv := hostBits_selector _ 0

theorem rh : Statement .rh := hostBits_selector _ 0

theorem lh : Statement .lh := hostBits_selector _ 0

theorem vread (a : VramAddr) : Statement (.vread a) := controlWord_code _ a

theorem vwrite (a : VramAddr) : Statement (.vwrite a) := controlWord_code _ a

theorem setreg (x : BitVec 2) (r : BitVec 4) (d : Byte) : Statement (.setreg x r d) := registerWord_code x r d

theorem cwrite (a : VramAddr) : Statement (.cwrite a) := controlWord_code _ a

theorem reg0 (x : BitVec 2) (d : Byte) : Statement (.reg0 x d) := ⟨registerWord_code x _ d, registerWord_index x _ d⟩

theorem reg1 (x : BitVec 2) (d : Byte) : Statement (.reg1 x d) := ⟨registerWord_code x _ d, registerWord_index x _ d⟩

theorem reg2 (x : BitVec 2) (d : Byte) : Statement (.reg2 x d) := ⟨registerWord_code x _ d, registerWord_index x _ d⟩

theorem reg3 (x : BitVec 2) (d : Byte) : Statement (.reg3 x d) := ⟨registerWord_code x _ d, registerWord_index x _ d⟩

theorem reg4 (x : BitVec 2) (d : Byte) : Statement (.reg4 x d) := ⟨registerWord_code x _ d, registerWord_index x _ d⟩

theorem reg5 (x : BitVec 2) (d : Byte) : Statement (.reg5 x d) := ⟨registerWord_code x _ d, registerWord_index x _ d⟩

theorem reg6 (x : BitVec 2) (d : Byte) : Statement (.reg6 x d) := ⟨registerWord_code x _ d, registerWord_index x _ d⟩

theorem reg7 (x : BitVec 2) (d : Byte) : Statement (.reg7 x d) := ⟨registerWord_code x _ d, registerWord_index x _ d⟩

theorem reg8 (x : BitVec 2) (d : Byte) : Statement (.reg8 x d) := ⟨registerWord_code x _ d, registerWord_index x _ d⟩

theorem reg9 (x : BitVec 2) (d : Byte) : Statement (.reg9 x d) := ⟨registerWord_code x _ d, registerWord_index x _ d⟩

theorem regA (x : BitVec 2) (d : Byte) : Statement (.regA x d) := ⟨registerWord_code x _ d, registerWord_index x _ d⟩

theorem regB (x : BitVec 2) (d : Byte) : Statement (.regB x d) := ⟨registerWord_code x _ d, registerWord_index x _ d⟩

theorem regC (x : BitVec 2) (d : Byte) : Statement (.regC x d) := ⟨registerWord_code x _ d, registerWord_index x _ d⟩

theorem regD (x : BitVec 2) (d : Byte) : Statement (.regD x d) := ⟨registerWord_code x _ d, registerWord_index x _ d⟩

theorem regE (x : BitVec 2) (d : Byte) : Statement (.regE x d) := ⟨registerWord_code x _ d, registerWord_index x _ d⟩

theorem regF (x : BitVec 2) (d : Byte) : Statement (.regF x d) := ⟨registerWord_code x _ d, registerWord_index x _ d⟩

theorem tick : Statement .tick := videoBits_selector _ 0 _

theorem eval (line : Nat) : Statement (.eval line) := videoBits_selector _ 0 (BitVec.ofNat 9 line)

theorem comp (h : Byte) (line : Nat) : Statement (.comp h line) := videoBits_selector _ h (BitVec.ofNat 9 line)

theorem reset : Statement .reset := videoBits_selector _ 0 _

end Sys2Proof.Laws.TableBits
end

