-- ==== Sys2Proof/Laws/Protocol.lean ====
section
/-!
SUPPORT. What each shared operation of the register protocol handler can do, said once
(spec/40_register_protocol.md R100 to R107).
-/

namespace Sys2Proof.Machine

variable (s : State)

/-- The refill loads the latch and increments the address, and touches nothing else (R100, R105). -/
theorem refill_eq :
    refill s = s.setPort
      { s.port with readLatch := vramRead s s.port.address, address := nextAddress s.port.address } := rfl

/-- The store of `writeData` for codes 0, 1 and 2 (R102). -/
theorem storeData_vram (d : Byte) (h : s.port.code.toNat ≤ 2) : storeData d s = s.writeVram s.port.address d := by
  simp [storeData, h]

/-- The store of `writeData` for code 3 (R102). -/
theorem storeData_cram (d : Byte) (h : ¬ s.port.code.toNat ≤ 2) :
    storeData d s = s.writeCram (s.port.address.toNat % cramEntries s.cfg.cramSize) d := by
  simp [storeData, h]

/-- A store touches memory only (R102). -/
theorem storeData_fields (d : Byte) :
    (storeData d s).cfg = s.cfg ∧ (storeData d s).regs = s.regs ∧ (storeData d s).port = s.port
      ∧ (storeData d s).flags = s.flags ∧ (storeData d s).counters = s.counters
      ∧ (storeData d s).sprites = s.sprites ∧ (storeData d s).evalLine = s.evalLine
      ∧ (storeData d s).pending = s.pending ∧ (storeData d s).returned = s.returned
      ∧ (storeData d s).spriteOut = s.spriteOut := by
  unfold storeData
  split <;> simp

/-- The immediate action of a command is one of three: a refill, a register write, or nothing (R104). -/
theorem commandAction_cases :
    (s.port.code.toNat = 0 ∧ commandAction s = refill s)
      ∨ (s.port.code.toNat = 2 ∧ commandAction s = registerCommand s)
      ∨ (s.port.code.toNat ≠ 0 ∧ s.port.code.toNat ≠ 2 ∧ commandAction s = s) := by
  unfold commandAction
  split <;> simp_all

/-- What a command's action leaves unchanged, whichever it is (R104 to R107). -/
theorem commandAction_fields :
    (commandAction s).cfg = s.cfg ∧ (commandAction s).flags = s.flags ∧ (commandAction s).counters = s.counters
      ∧ (commandAction s).sprites = s.sprites ∧ (commandAction s).evalLine = s.evalLine
      ∧ (commandAction s).vram = s.vram ∧ (commandAction s).cram = s.cram
      ∧ (commandAction s).pending = s.pending ∧ (commandAction s).returned = s.returned
      ∧ (commandAction s).spriteOut = s.spriteOut ∧ (commandAction s).port.ctrlPhase = s.port.ctrlPhase
      ∧ (commandAction s).port.code = s.port.code ∧ (commandAction s).port.ctrlLow = s.port.ctrlLow := by
  obtain ⟨-, h⟩ | ⟨-, h⟩ | ⟨-, -, h⟩ := commandAction_cases s <;> rw [h] <;> simp [refill, registerCommand]

/-- What a control write leaves unchanged, in either phase (R103, R104). -/
theorem writeControl_fields (d : Byte) :
    (writeControl d s).cfg = s.cfg ∧ (writeControl d s).flags = s.flags ∧ (writeControl d s).counters = s.counters
      ∧ (writeControl d s).sprites = s.sprites ∧ (writeControl d s).evalLine = s.evalLine
      ∧ (writeControl d s).vram = s.vram ∧ (writeControl d s).cram = s.cram
      ∧ (writeControl d s).pending = s.pending ∧ (writeControl d s).returned = s.returned
      ∧ (writeControl d s).spriteOut = s.spriteOut ∧ (writeControl d s).port.ctrlPhase = !s.port.ctrlPhase := by
  unfold writeControl
  split
  · rename_i h
    unfold controlHigh
    obtain ⟨h₁, h₂, h₃, h₄, h₅, h₆, h₇, h₈, h₉, h₁₀, h₁₁, -, -⟩ := commandAction_fields (s.setPort
      { s.port with address := composeAddress d (pendingLow s), code := accessCode d, ctrlPhase := false })
    exact ⟨h₁, h₂, h₃, h₄, h₅, h₆, h₇, h₈, h₉, h₁₀, by simpa [h] using h₁₁⟩
  · rename_i h
    unfold controlLow
    split <;> simp [h]

/-- What a command word leaves unchanged, from either phase (R94, R96). -/
theorem controlPair_fields (cw : BitVec 16) :
    (controlPair cw s).cfg = s.cfg ∧ (controlPair cw s).flags = s.flags ∧ (controlPair cw s).counters = s.counters
      ∧ (controlPair cw s).sprites = s.sprites ∧ (controlPair cw s).evalLine = s.evalLine
      ∧ (controlPair cw s).vram = s.vram ∧ (controlPair cw s).cram = s.cram
      ∧ (controlPair cw s).pending = s.pending ∧ (controlPair cw s).returned = s.returned
      ∧ (controlPair cw s).spriteOut = s.spriteOut ∧ (controlPair cw s).port.ctrlPhase = s.port.ctrlPhase := by
  unfold controlPair
  obtain ⟨h₁, h₂, h₃, h₄, h₅, h₆, h₇, h₈, h₉, h₁₀, h₁₁⟩ := writeControl_fields s (firstByte cw)
  obtain ⟨k₁, k₂, k₃, k₄, k₅, k₆, k₇, k₈, k₉, k₁₀, k₁₁⟩ :=
    writeControl_fields (writeControl (firstByte cw) s) (secondByte cw)
  refine ⟨k₁.trans h₁, k₂.trans h₂, k₃.trans h₃, k₄.trans h₄, k₅.trans h₅, k₆.trans h₆, k₇.trans h₇, k₈.trans h₈,
    k₉.trans h₉, k₁₀.trans h₁₀, ?_⟩
  rw [k₁₁, h₁₁, Bool.not_not]

/-- The port after both bytes of a command word from phase 0, before the command's action: address and code are
the word's fields (R83, R84, R103, R104). -/
def composedPort (c : Config) (cw : BitVec 16) (p : PortLatches) : PortLatches :=
  { p with
    address := cw.extractLsb' 0 14
    code := cw.extractLsb' 14 2
    ctrlPhase := false
    ctrlLow := if c.ctrlLowImmediate then p.ctrlLow else firstByte cw }

/-- The address composed from a word's two bytes is the word's low 14 bits (R84). -/
theorem composeAddress_bytes (cw : BitVec 16) :
    composeAddress (secondByte cw) (firstByte cw) = cw.extractLsb' 0 14 := by
  apply BitVec.eq_of_toNat_eq
  rw [composeAddress_toNat, secondByte, firstByte, toNat_extract, toNat_extract, toNat_extract]
  have := cw.isLt
  omega

/-- The code of a word's second byte is the word's top two bits (R84). -/
theorem accessCode_secondByte (cw : BitVec 16) : accessCode (secondByte cw) = cw.extractLsb' 14 2 := by
  apply BitVec.eq_of_toNat_eq
  rw [accessCode_toNat, secondByte, toNat_extract, toNat_extract]
  have := cw.isLt
  omega

/-- A command word from phase 0 composes its whole word, then acts (R83, R94, R104). -/
theorem controlPair_phase_zero (cw : BitVec 16) (h : s.port.ctrlPhase = false) :
    controlPair cw s = commandAction (s.setPort (composedPort s.cfg cw s.port)) := by
  unfold controlPair writeControl
  cases hi : s.cfg.ctrlLowImmediate <;>
    simp [h, hi, controlLow, controlHigh, pendingLow, composeAddress_bytes, accessCode_secondByte, composedPort] <;>
    rfl

/-- The two register fields of a composed register word (R86). -/
theorem registerWord_fields (x : BitVec 2) (r : BitVec 4) (d : Byte) :
    registerIndex ((registerWord x r d).extractLsb' 0 14) = r ∧ lowByteOf ((registerWord x r d).extractLsb' 0 14) = d
      ∧ ((registerWord x r d).extractLsb' 0 14).toNat = 4096 * x.toNat + 256 * r.toNat + d.toNat := by
  have hw : (registerWord x r d).toNat = ((2 * 4 + x.toNat) * 16 + r.toNat) * 256 + d.toNat := by
    unfold registerWord
    rw [toNat_append', toNat_append', toNat_append']
    rfl
  have hx := x.isLt
  have hr := r.isLt
  have hd := d.isLt
  refine ⟨BitVec.eq_of_toNat_eq ?_, BitVec.eq_of_toNat_eq ?_, ?_⟩
  · rw [registerIndex_toNat, toNat_extract, hw]; omega
  · rw [lowByteOf_toNat, toNat_extract, hw]; omega
  · rw [toNat_extract, hw]; omega

/-- A register-write command from phase 0: the register is written and the port holds the composed word (R107). -/
theorem controlPair_register (x : BitVec 2) (r : BitVec 4) (d : Byte) (h : s.port.ctrlPhase = false) :
    controlPair (registerWord x r d) s
      = (s.setPort (composedPort s.cfg (registerWord x r d) s.port)).setRegs (registerWrite s.cfg r d s.regs) := by
  rw [controlPair_phase_zero s _ h]
  obtain ⟨hi, hd, -⟩ := registerWord_fields x r d
  simp [commandAction, composedPort, registerWord_code, registerCommand, hi, hd]

end Sys2Proof.Machine
end

