-- ==== Sys2Proof/Laws/Sprites.lean ====
section
/-!
SUPPORT. What the sprite stages' loops compute, said once by induction (spec/42_sprite_evaluation.md R170 to R177,
spec/43_sprite_compositing.md R190 to R196).
-/

namespace Sys2Proof.Machine

variable (s : State)

/-- The slots from `i` on, `n` of them, before the first terminator (R172). -/
def slotsBeforeTerminator : Nat → Nat → List Nat
  | 0, _ => []
  | n + 1, i => if slotByte s i 0 = satSentinel then [] else i :: slotsBeforeTerminator n (i + 1)

/-- `slotsBeforeTerminator` is the longest prefix of the slots without a terminator. -/
theorem slotsBeforeTerminator_eq (n i : Nat) :
    slotsBeforeTerminator s n i
      = (List.range' i n).takeWhile (fun j => !decide (slotByte s j 0 = satSentinel)) := by
  induction n generalizing i with
  | zero => rfl
  | succ n ih =>
    rw [List.range'_succ, slotsBeforeTerminator]
    by_cases h : slotByte s i 0 = satSentinel <;> simp [h, ih]

/-- The walk, given the visible slots still ahead: it selects as many of them as there is room for, and its fifth is
the first that finds none (R176). -/
theorem walkSlots_eq (line n i : Nat) (acc : List SpriteEntry) (hacc : acc.length ≤ 4) :
    walkSlots s line n i acc =
      { selected := acc ++ (((slotsBeforeTerminator s n i).filter (slotVisible s line)).take (4 - acc.length)).map
          (slotEntry s)
        fifth := ((slotsBeforeTerminator s n i).filter (slotVisible s line))[4 - acc.length]?.map
          (BitVec.ofNat 5) } := by
  induction n generalizing i acc with
  | zero => simp [walkSlots, slotsBeforeTerminator]
  | succ n ih =>
    rw [walkSlots, slotsBeforeTerminator]
    by_cases ht : slotByte s i 0 = satSentinel
    · simp [ht]
    · by_cases hv : slotVisible s line i
      · by_cases hl : acc.length = 4
        · simp [ht, hv, hl, spritesPerLine]
        · obtain ⟨k, hk⟩ : ∃ k, 4 - acc.length = k + 1 := ⟨3 - acc.length, by omega⟩
          have hk' : 4 - (acc ++ [slotEntry s i]).length = k := by simp; omega
          simp only [ht, hv, hl, if_false, if_true, spritesPerLine, List.filter_cons_of_pos, hk]
          rw [ih (i + 1) (acc ++ [slotEntry s i]) (by simp; omega), hk']
          simp
      · simp only [ht, hv, if_false, Bool.false_eq_true]
        rw [ih (i + 1) acc hacc]
        simp [hv]

/-- Every entry a walk selects from nothing is the entry of a visible slot, and there are at most four (R176). -/
theorem walkSlots_selected (line n i : Nat) :
    (walkSlots s line n i []).selected.length ≤ 4
      ∧ ∀ e ∈ (walkSlots s line n i []).selected, ∃ j, slotVisible s line j = true ∧ e = slotEntry s j := by
  rw [walkSlots_eq s line n i [] (by simp)]
  refine ⟨by simp, fun e he => ?_⟩
  simp only [List.length_nil, List.nil_append, List.mem_map] at he
  obtain ⟨j, hj, rfl⟩ := he
  exact ⟨j, (List.mem_filter.1 (List.mem_of_mem_take hj)).2, rfl⟩

/-- A visible slot's entry starts at or above the line (R174). -/
theorem slotVisible_le {line i : Nat} (h : slotVisible s line i = true) : (slotEntry s i).y.toNat ≤ line :=
  ((covers_iff _ _ _ _).1 h).1

/-- The scan of a pixel once a colour is resolved: it keeps it, and meets a collision exactly when another entry
is opaque (R194). -/
theorem scanPixel_resolved (h : Byte) (line : Nat) (l : List SpriteEntry) (c : BitVec 4) :
    scanPixel s h line l (some c) = (some c, !(l.filter (opaqueAt s h line)).isEmpty) := by
  induction l with
  | nil => rfl
  | cons o rest ih => by_cases ho : opaqueAt s h line o <;> simp [scanPixel, ho, ih]

/-- The scan of a pixel from nothing: the first opaque entry's colour, and a collision exactly when there are two
(R194, R196). -/
theorem scanPixel_none (h : Byte) (line : Nat) (l : List SpriteEntry) :
    scanPixel s h line l none
      = ((l.filter (opaqueAt s h line)).head?.map (·.color), decide (2 ≤ (l.filter (opaqueAt s h line)).length)) := by
  induction l with
  | nil => rfl
  | cons o rest ih =>
    by_cases ho : opaqueAt s h line o
    · simp only [scanPixel, ho, if_true, scanPixel_resolved, List.filter_cons_of_pos, List.head?_cons,
        Option.map_some, List.length_cons]
      cases rest.filter (opaqueAt s h line) <;> simp
    · simp [scanPixel, ho, ih]

/-- What an evaluation leaves unchanged (R170). -/
theorem evaluate_fields (line : Nat) :
    (evaluate line s).cfg = s.cfg ∧ (evaluate line s).regs = s.regs ∧ (evaluate line s).port = s.port
      ∧ (evaluate line s).counters = s.counters ∧ (evaluate line s).vram = s.vram ∧ (evaluate line s).cram = s.cram
      ∧ (evaluate line s).pending = s.pending ∧ (evaluate line s).returned = s.returned
      ∧ (evaluate line s).spriteOut = s.spriteOut
      ∧ (evaluate line s).flags.frameIrqPending = s.flags.frameIrqPending
      ∧ (evaluate line s).flags.lineIrqPending = s.flags.lineIrqPending := by
  simp [evaluate, evaluationFlags]

/-- What a compositing step leaves unchanged (R190). -/
theorem composite_fields (h : Byte) (line : Nat) :
    (composite h line s).cfg = s.cfg ∧ (composite h line s).regs = s.regs ∧ (composite h line s).port = s.port
      ∧ (composite h line s).counters = s.counters ∧ (composite h line s).sprites = s.sprites
      ∧ (composite h line s).evalLine = s.evalLine ∧ (composite h line s).vram = s.vram
      ∧ (composite h line s).cram = s.cram ∧ (composite h line s).pending = s.pending
      ∧ (composite h line s).returned = s.returned
      ∧ (composite h line s).flags.frameIrqPending = s.flags.frameIrqPending
      ∧ (composite h line s).flags.lineIrqPending = s.flags.lineIrqPending
      ∧ (composite h line s).flags.spriteOverflow = s.flags.spriteOverflow
      ∧ (composite h line s).flags.fifthSprite = s.flags.fifthSprite := by
  simp [composite]

/-- An `EVAL` that answers a next state is an evaluation of a byte line (R170, R179). -/
theorem execEval_next {line : Nat} {t : State} (h : execEval line s = .next t) :
    line ≤ 255 ∧ modeRefused s = false ∧ t = evaluate line s := by
  unfold execEval at h
  split at h
  · cases h
  · split at h
    · cases h
    · rename_i h₁ h₂
      cases h
      exact ⟨by omega, by simpa using h₂, rfl⟩

/-- A `COMP` that answers a next state composites the line last evaluated (R190, R198). -/
theorem execComp_next {h : Byte} {line : Nat} {t : State} (he : execComp h line s = .next t) :
    s.evalLine = some line ∧ modeRefused s = false ∧ t = composite h line s := by
  unfold execComp at he
  split at he
  · cases he
  · split at he
    · cases he
    · rename_i h₁ h₂
      cases he
      exact ⟨by simpa using h₁, by simpa using h₂, rfl⟩

end Sys2Proof.Machine
end

