-- ==== Sys2Proof/Laws/Step.lean ====
section
/-!
SUPPORT. What one operation and one step can do, said once. An invariant of the machine is one case per shape of
operation.
-/

namespace Sys2Proof.Machine

/-- The shapes of a completed operation: everything `exec` can answer with a next state. -/
inductive ExecCase (i : Instr) (s t : State) : Prop where
  | readData (hi : i = .rd) (h : t = readData s)
  | readStatus (hi : i = .rs) (h : t = readStatus s)
  | writeData (d : Byte) (hi : i = .wd d) (h : t = writeData d s)
  | control (d : Byte) (hi : i = .wcLo d ∨ i = .wcHi d) (h : t = writeControl d s)
  | command (cw : BitVec 16) (hi : encode i = .control cw ∨ encode i = .register cw) (h : t = controlPair cw s)
  | counterRead (v : Byte) (hi : (i = .rv ∧ v = vcounterView s) ∨ (i = .rh ∧ v = hcounterView s)) (h : t = s.returnByte v)
  | latch (hi : i = .lh) (h : t = s.setCounters { s.counters with hLatchRaw := s.counters.hPixel })
  | tick (hi : i = .tick) (h : t = tick s)
  | evaluate (line : Nat) (hi : i = .eval line) (hl : line ≤ 255) (hm : modeRefused s = false) (h : t = evaluate line s)
  | composite (x : Byte) (line : Nat) (hi : i = .comp x line) (hl : s.evalLine = some line)
      (hm : modeRefused s = false) (h : t = composite x line s)
  | reset (hi : i = .reset) (h : t = resetStep s)

/-- Every completed operation has one of the shapes. -/
theorem exec_cases {i : Instr} {s t : State} (h : exec i s = .next t) : ExecCase i s t := by
  cases i with
  | rd => exact .readData rfl (Host.Outcome.next.inj h).symm
  | rs => exact .readStatus rfl (Host.Outcome.next.inj h).symm
  | wd d => exact .writeData d rfl (Host.Outcome.next.inj h).symm
  | wcLo d => exact .control d (.inl rfl) (Host.Outcome.next.inj h).symm
  | wcHi d => exact .control d (.inr rfl) (Host.Outcome.next.inj h).symm
  | rv => exact .counterRead _ (.inl ⟨rfl, rfl⟩) (Host.Outcome.next.inj h).symm
  | rh => exact .counterRead _ (.inr ⟨rfl, rfl⟩) (Host.Outcome.next.inj h).symm
  | lh => exact .latch rfl (Host.Outcome.next.inj h).symm
  | vread a => exact .command _ (.inl rfl) (Host.Outcome.next.inj h).symm
  | vwrite a => exact .command _ (.inl rfl) (Host.Outcome.next.inj h).symm
  | setreg x r d => exact .command _ (.inl rfl) (Host.Outcome.next.inj h).symm
  | cwrite a => exact .command _ (.inl rfl) (Host.Outcome.next.inj h).symm
  | tick => exact .tick rfl (Host.Outcome.next.inj h).symm
  | eval line => exact let ⟨h₁, h₂, h₃⟩ := execEval_next s h; .evaluate line rfl h₁ h₂ h₃
  | comp x line => exact let ⟨h₁, h₂, h₃⟩ := execComp_next s h; .composite x line rfl h₁ h₂ h₃
  | reset => exact .reset rfl (Host.Outcome.next.inj h).symm
  | reg0 x d => exact .command _ (.inr rfl) (Host.Outcome.next.inj h).symm
  | reg1 x d => exact .command _ (.inr rfl) (Host.Outcome.next.inj h).symm
  | reg2 x d => exact .command _ (.inr rfl) (Host.Outcome.next.inj h).symm
  | reg3 x d => exact .command _ (.inr rfl) (Host.Outcome.next.inj h).symm
  | reg4 x d => exact .command _ (.inr rfl) (Host.Outcome.next.inj h).symm
  | reg5 x d => exact .command _ (.inr rfl) (Host.Outcome.next.inj h).symm
  | reg6 x d => exact .command _ (.inr rfl) (Host.Outcome.next.inj h).symm
  | reg7 x d => exact .command _ (.inr rfl) (Host.Outcome.next.inj h).symm
  | reg8 x d => exact .command _ (.inr rfl) (Host.Outcome.next.inj h).symm
  | reg9 x d => exact .command _ (.inr rfl) (Host.Outcome.next.inj h).symm
  | regA x d => exact .command _ (.inr rfl) (Host.Outcome.next.inj h).symm
  | regB x d => exact .command _ (.inr rfl) (Host.Outcome.next.inj h).symm
  | regC x d => exact .command _ (.inr rfl) (Host.Outcome.next.inj h).symm
  | regD x d => exact .command _ (.inr rfl) (Host.Outcome.next.inj h).symm
  | regE x d => exact .command _ (.inr rfl) (Host.Outcome.next.inj h).symm
  | regF x d => exact .command _ (.inr rfl) (Host.Outcome.next.inj h).symm

/-- A step that answers a next state idles on an empty queue or performs the decoded first word. -/
theorem step_cases {s t : State} (h : step s = .next t) :
    (s.pending = [] ∧ t = s)
      ∨ ∃ w rest i, s.pending = w :: rest ∧ decode s.port.ctrlPhase w = .ok i
          ∧ exec i (s.setPending rest) = .next t := by
  unfold step fetchOp at h
  cases hp : s.pending with
  | nil => rw [hp] at h; exact .inl ⟨rfl, (Host.Outcome.next.inj h).symm⟩
  | cons w rest =>
    rw [hp] at h
    cases hd : decode s.port.ctrlPhase w with
    | error why => simp [hd] at h
    | ok i => exact .inr ⟨w, rest, i, rfl, hd, by simpa [hd] using h⟩

end Sys2Proof.Machine
end

