-- ==== Sys2Proof/Tests/Slice0.lean ====
section
/-!
SUPPORT. The model's own tests. Every expected value is the spec's: a worked example of a rule, or a row of
95_test_vectors.md, named in the docstring. First the well-formedness smoke test, then a word of the spec for every
operation, then single operations, then one witness for every statement that has hypotheses.
-/

namespace Sys2Proof.Tests

open Sys2Proof.Machine

/-! ### Helpers -/

/-- The state after a default reset with `H_PERIOD = 4` (95_test_vectors.md, conventions). -/
def base : State :=
  { cfg := defaultConfig 4, regs := zeroRegs, port := zeroPort, flags := zeroFlags, counters := zeroCounters,
    sprites := [], evalLine := none, vram := [], cram := [], pending := [], returned := none, spriteOut := none }

/-- The result is a next state with a property. -/
def answers (o : Result) (p : State → Bool) : Bool :=
  match o with
  | .next s => p s
  | .fault _ => false
  | .refused _ => false

/-- The result is a refusal by name. -/
def refuses (o : Result) (r : Refusal) : Bool :=
  match o with
  | .next _ => false
  | .fault _ => false
  | .refused q => decide (q = r)

/-- The decoder's answer is this operation. -/
def reads (e : Except DecodeError Instr) (i : Instr) : Bool :=
  match e with
  | .ok j => decide (j = i)
  | .error _ => false

/-- The decoder's answer is this error. -/
def rejects (e : Except DecodeError Instr) (d : DecodeError) : Bool :=
  match e with
  | .ok _ => false
  | .error k => decide (k = d)

/-- A state in the second phase of a control pair. -/
def inPhaseOne : State := base.setPort { zeroPort with ctrlPhase := true }

/-- `SPRITE_ENGINE_SCOPE = legacy_only` with `mode = 0b1000` (row E19), a line evaluated. -/
def legacyMode4 : State :=
  { base with cfg := { defaultConfig 4 with spriteEngineScope := .legacyOnly }
              regs := { zeroRegs with mode := 0b1000#4 }, evalLine := some 0 }

/-- Program P4: six slots `(0x31, 8i, 0x00, 0x01)` and a terminator. -/
def sixSprites : State :=
  { base with vram :=
      [(0, 0x31#8), (1, 0#8), (2, 0#8), (3, 1#8), (4, 0x31#8), (5, 8#8), (6, 0#8), (7, 1#8),
       (8, 0x31#8), (9, 16#8), (10, 0#8), (11, 1#8), (12, 0x31#8), (13, 24#8), (14, 0#8), (15, 1#8),
       (16, 0x31#8), (17, 32#8), (18, 0#8), (19, 1#8), (20, 0x31#8), (21, 40#8), (22, 0#8), (23, 1#8),
       (24, 0xD0#8)] }

/-- The working set of program P3 after its `EVAL 100`, with row 0 of its two patterns. -/
def twoSprites : State :=
  { base with regs := { zeroRegs with spritePatternBase := 1 }, evalLine := some 100
              sprites := [{ x := 10, y := 100, pattern := 0, color := 15 }, { x := 14, y := 100, pattern := 1, color := 4 }]
              vram := [(0x0800, 0xFF#8), (0x0808, 0x80#8)] }

/-! ### Well-formedness -/

/-- The two checks: a line has nine bits (30_encoding.md R82). -/
theorem test_wellFormed_refuses_long_lines :
    (Instr.eval 512).wellFormed = false ∧ (Instr.comp 0 512).wellFormed = false
      ∧ (Instr.eval 511).wellFormed = true ∧ (Instr.comp 0 511).wellFormed = true := by decide

/-! ### Words of the spec -/

/-- Host words (30_encoding.md R81; programs P1, P5, P6, P8). The two halves of `WC` are one word told apart by
the phase. -/
theorem test_decode_host_words :
    reads (decode false (.host 0b00000000000#11)) .rd ∧ reads (decode true (.host 0b00100000000#11)) .rs
      ∧ reads (decode false (.host 0b01000010001#11)) (.wd 0x11)
      ∧ reads (decode false (.host 0b01111111110#11)) (.wcLo 0xFE)
      ∧ reads (decode true (.host 0b01101111111#11)) (.wcHi 0x7F)
      ∧ reads (decode false (.host 0b10000000000#11)) .rv ∧ reads (decode false (.host 0b10100000000#11)) .rh
      ∧ reads (decode true (.host 0b11000000000#11)) .lh := by decide

/-- Host selector 111 is refused, and no control word is, in whichever format (30_encoding.md R93). -/
theorem test_decode_rejects_by_name :
    rejects (decode false (.host 0b11100000000#11)) .unusedHostSelector
      ∧ rejects (decode true (.host 0b11111111111#11)) .unusedHostSelector
      ∧ reads (decode false (.register 0b1100111101010101#16)) (.cwrite 0x0F55) := by decide

/-- Control words (30_encoding.md R85): `VREAD 0x3FFF`, `VWRITE 0x3FFE` (P1), register 3 with both ignored bits set
(row S12), `CWRITE 0x001F` (P5). -/
theorem test_decode_control_words :
    reads (decode false (.control 0b0011111111111111#16)) (.vread 0x3FFF)
      ∧ reads (decode false (.control 0b0111111111111110#16)) (.vwrite 0x3FFE)
      ∧ reads (decode false (.control 0b1011001100010010#16)) (.setreg 3 3 0x12)
      ∧ reads (decode false (.control 0b1100000000011111#16)) (.cwrite 0x1F) := by decide

/-- Register words 0x0 to 0x7 (30_encoding.md R86, R87; rows W1, W3, W5). -/
theorem test_decode_register_words_low :
    reads (decode false (.register 0b1000000000000110#16)) (.reg0 0 0x06)
      ∧ reads (decode false (.register 0b1000000100010010#16)) (.reg1 0 0x12)
      ∧ reads (decode false (.register 0b1000001011111111#16)) (.reg2 0 0xFF)
      ∧ reads (decode false (.register 0b1011001100010010#16)) (.reg3 3 0x12)
      ∧ reads (decode false (.register 0b1000010011111111#16)) (.reg4 0 0xFF)
      ∧ reads (decode false (.register 0b1000010111111111#16)) (.reg5 0 0xFF)
      ∧ reads (decode false (.register 0b1000011011111111#16)) (.reg6 0 0xFF)
      ∧ reads (decode false (.register 0b1000011111111111#16)) (.reg7 0 0xFF) := by decide

/-- Register words 0x8 to 0xF (30_encoding.md R86, R87; rows W6, W7, W8). -/
theorem test_decode_register_words_high :
    reads (decode false (.register 0b1000100010000000#16)) (.reg8 0 0x80)
      ∧ reads (decode false (.register 0b1000100101111111#16)) (.reg9 0 0x7F)
      ∧ reads (decode false (.register 0b1000101000001001#16)) (.regA 0 0x09)
      ∧ reads (decode false (.register 0b1000101111111111#16)) (.regB 0 0xFF)
      ∧ reads (decode false (.register 0b1000110011111111#16)) (.regC 0 0xFF)
      ∧ reads (decode false (.register 0b1000110111111111#16)) (.regD 0 0xFF)
      ∧ reads (decode false (.register 0b1000111011111111#16)) (.regE 0 0xFF)
      ∧ reads (decode false (.register 0b1000111101010101#16)) (.regF 0 0x55) := by decide

/-- Video words (30_encoding.md R82; programs P3, P4): `COMP 14, 100` is 0x4640E, `EVAL 52` is 0x23400. -/
theorem test_decode_video_words :
    reads (decode false (.video 0b0000000000000000000#19)) .tick
      ∧ reads (decode false (.video 0b0100011010000000000#19)) (.eval 52)
      ∧ reads (decode true (.video 0b1000110010000001110#19)) (.comp 14 100)
      ∧ reads (decode true (.video 0b1100000000000000000#19)) .reset := by decide

/-- Words as the opcode table numbers them: `WC` 0x3FE, `SETREG 7, 0x35`, `EVAL 52` (log 2). -/
theorem test_decodeTableWord :
    decodeTableWord 16 0x3FE = some (.wcLo 0xFE) ∧ decodeTableWord 16 0x8735 = some (.reg7 0 0x35)
      ∧ decodeTableWord 24 0x23400 = some (.eval 52) ∧ decodeTableWord 16 0x7FFE = some (.vwrite 0x3FFE)
      ∧ decodeTableWord 11 0x700 = none := by decide

/-! ### Single operations -/

/-- R100's example (row S5), and row H6: the address wraps. -/
theorem test_rd :
    answers (exec .rd { base with port := { zeroPort with readLatch := 0x22 }, vram := [(0, 0x33#8)] })
        (fun t => t.returned == some 0x22#8 && t.port.readLatch == 0x33#8 && t.port.address == 1#14)
      ∧ answers (exec .rd { base with port := { zeroPort with address := 0x3FFF }, vram := [(0x3FFF, 0x5E#8)] })
        (fun t => t.port.readLatch == 0x5E#8 && t.port.address == 0#14) := by decide

/-- R101's example (row S11), and row H14: the line flag is cleared and not reported. -/
theorem test_rs :
    answers (exec .rs { base with flags := { zeroFlags with frameIrqPending := true, spriteOverflow := true, fifthSprite := 5 } })
        (fun t => t.returned == some 0xC5#8 && t.flags == zeroFlags)
      ∧ answers (exec .rs { base with flags := { zeroFlags with lineIrqPending := true } })
        (fun t => t.returned == some 0#8 && !t.flags.lineIrqPending) := by decide

/-- Row H5: a store at the top of VRAM wraps the address. -/
theorem test_wd_vram :
    answers (exec (.wd 0x22) { base with port := { zeroPort with address := 0x3FFF, code := 1 } })
      (fun t => t.vram == [(0x3FFF, 0x22#8)] && t.port.address == 0#14) := by decide

/-- Row S7: index 32 aliases 0 on the 32-entry variant and not on the 64-entry one. -/
theorem test_wd_cram :
    answers (exec (.wd 0x2A) { base with port := { zeroPort with address := 0x20, code := 3 } })
        (fun t => t.cram == [(0, 0x2A#8)] && t.port.address == 0x21#14)
      ∧ answers (exec (.wd 0x2A) { base with cfg := { defaultConfig 4 with cramSize := .entries64 }
                                             port := { zeroPort with address := 0x20, code := 3 } })
        (fun t => t.cram == [(32, 0x2A#8)]) := by decide

/-- R103's example, and row H15: the low byte is held when `CTRL_LOW_IMMEDIATE` is false. -/
theorem test_wcLo :
    answers (exec (.wcLo 0xAB) { base with port := { zeroPort with address := 0x1234 } })
        (fun t => t.port.address == 0x12AB#14 && t.port.ctrlPhase)
      ∧ answers (exec (.wcLo 0xAB) { base with cfg := { defaultConfig 4 with ctrlLowImmediate := false }
                                               port := { zeroPort with address := 0x1234 } })
        (fun t => t.port.address == 0x1234#14 && t.port.ctrlLow == 0xAB#8) := by decide

/-- R104's example, second byte (row H3). -/
theorem test_wcHi :
    answers (exec (.wcHi 0x52) { base with port := { zeroPort with address := 0x34, ctrlPhase := true } })
      (fun t => t.port.address == 0x1234#14 && t.port.code == 1#2 && !t.port.ctrlPhase) := by decide

/-- Rows V1 (219, 218) and V6 (PAL, 240 lines, 267). -/
theorem test_rv :
    answers (exec .rv { base with counters := { zeroCounters with vLine := 219 } }) (fun t => t.returned == some 213#8)
      ∧ answers (exec .rv { base with counters := { zeroCounters with vLine := 218 } }) (fun t => t.returned == some 218#8)
      ∧ answers (exec .rv { base with cfg := { defaultConfig 4 with region := .pal }, regs := { zeroRegs with mode := 0b1110 }
                                      counters := { zeroCounters with vLine := 267 } })
        (fun t => t.returned == some 210#8) := by decide

/-- Row S13 and the table of R143: 200 reads 26, 0 reads 232, 93 reads 255. -/
theorem test_rh :
    answers (exec .rh { base with counters := { zeroCounters with hLatchRaw := 200 } }) (fun t => t.returned == some 26#8)
      ∧ answers (exec .rh base) (fun t => t.returned == some 232#8)
      ∧ answers (exec .rh { base with counters := { zeroCounters with hLatchRaw := 93 } })
        (fun t => t.returned == some 255#8) := by decide

/-- R144: the latch takes the pixel count. -/
theorem test_lh :
    answers (exec .lh { base with counters := { zeroCounters with hPixel := 200 } })
      (fun t => t.counters.hLatchRaw == 200#16 && t.counters.hPixel == 200#16) := by decide

/-- R105's example: `VREAD 0x3FFF` primes the latch and wraps the address. -/
theorem test_vread :
    answers (exec (.vread 0x3FFF) { base with vram := [(0x3FFF, 0x22#8)] })
      (fun t => t.port.readLatch == 0x22#8 && t.port.address == 0#14 && t.port.code == 0#2) := by decide

/-- Row H3 as one command: the latch is left. -/
theorem test_vwrite :
    answers (exec (.vwrite 0x1234) { base with port := { zeroPort with readLatch := 0x77 } })
      (fun t => t.port.address == 0x1234#14 && t.port.code == 1#2 && t.port.readLatch == 0x77#8) := by decide

/-- Row S12: register 3 is written, the ignored bits stay in the address. -/
theorem test_setreg :
    answers (exec (.setreg 3 3 0x12) base)
      (fun t => t.regs.colorTableBase == 0x12#8 && t.port.address == 0x3312#14 && t.port.code == 2#2) := by decide

/-- R106's example. -/
theorem test_cwrite :
    answers (exec (.cwrite 0x1F) base) (fun t => t.port.address == 0x1F#14 && t.port.code == 3#2) := by decide

/-- Row S1, from `mode = 0b0101`, and row W1. -/
theorem test_reg0 :
    answers (exec (.reg0 0 0x06) { base with regs := { zeroRegs with mode := 0b0101 } })
        (fun t => t.regs == { zeroRegs with mode := 0b1111 } && t.port.address == 6#14)
      ∧ answers (exec (.reg0 0 0xFF) base)
        (fun t => t.regs == { zeroRegs with
          externalSync := true, mode := 0b1010, spriteShift := true, lineIrqEnable := true, leftClip := true,
          hScrollLock := true, vScrollLock := true }) := by decide

/-- Rows W2 and W3. -/
theorem test_reg1 :
    answers (exec (.reg1 0 0xFF) base)
        (fun t => t.regs == { zeroRegs with
          spriteZoom := true, spriteSize := true, mode := 0b0101, frameIrqEnable := true, displayEnable := true })
      ∧ answers (exec (.reg1 0 0x12) { base with regs := { zeroRegs with mode := 0b1010 } })
        (fun t => t.regs == { zeroRegs with mode := 0b1011, spriteSize := true }) := by decide

/-- Rows W5 and W6: the table bases. -/
theorem test_reg2_to_reg6 :
    answers (exec (.reg2 0 0xFF) base) (fun t => t.regs == { zeroRegs with nameTableBase := 0xF })
      ∧ answers (exec (.reg3 0 0xA5) base) (fun t => t.regs == { zeroRegs with colorTableBase := 0xA5 })
      ∧ answers (exec (.reg4 0 0xFF) base) (fun t => t.regs == { zeroRegs with patternTableBase := 7 })
      ∧ answers (exec (.reg5 0 0xFF) base)
        (fun t => t.regs == { zeroRegs with spriteAttrBase := 0x7F } && satBase t.regs == 0x3F80#14)
      ∧ answers (exec (.reg6 0 0xFF) base)
        (fun t => t.regs == { zeroRegs with spritePatternBase := 7 } && patternBase t.regs == 0x3800#14) := by decide

/-- Rows W5 and W6, R118's example: the backdrop and the scroll offsets. -/
theorem test_reg7_to_reg9 :
    answers (exec (.reg7 0 0xF4) base) (fun t => t.regs == { zeroRegs with backdropColor := 4 })
      ∧ answers (exec (.reg8 0 0x80) base) (fun t => t.regs == { zeroRegs with hScroll := 0x80 })
      ∧ answers (exec (.reg9 0 0x7F) base) (fun t => t.regs == { zeroRegs with vScroll := 0x7F }) := by decide

/-- Row W7, both settings of `REG_A_IS_LINE_COUNTER`. -/
theorem test_regA :
    answers (exec (.regA 0 0x09) base) (fun t => t.regs == { zeroRegs with lineReload := 9 })
      ∧ answers (exec (.regA 0 0x09) { base with cfg := { defaultConfig 4 with regAIsLineCounter := false } })
        (fun t => t.regs == zeroRegs) := by decide

/-- R110's example and row W8: the write is discarded, the address and code are not. -/
theorem test_regB_to_regF :
    answers (exec (.regB 0 0xFF) base) (fun t => t.regs == zeroRegs)
      ∧ answers (exec (.regC 0 0xFF) base) (fun t => t.regs == zeroRegs)
      ∧ answers (exec (.regD 0 0xFF) base) (fun t => t.regs == zeroRegs)
      ∧ answers (exec (.regE 0 0xFF) base) (fun t => t.regs == zeroRegs)
      ∧ answers (exec (.regF 0 0x55) base)
        (fun t => t.regs == zeroRegs && t.port.address == 0x0F55#14 && t.port.code == 2#2) := by decide

/-- T1, T2 and T4: the raw counters and their two wraps. -/
theorem test_tick_counters :
    answers (exec .tick base) (fun t => t.counters.hPixel == 1#16 && t.counters.vLine == 0)
      ∧ answers (exec .tick { base with counters := { zeroCounters with hPixel := 3, vLine := 5 } })
        (fun t => t.counters.hPixel == 0#16 && t.counters.vLine == 6 && t.flags == zeroFlags)
      ∧ answers (exec .tick { base with counters := { zeroCounters with hPixel := 3, vLine := 261 } })
        (fun t => t.counters.hPixel == 0#16 && t.counters.vLine == 0) := by decide

/-- Program P6 step 6, and row L5: the underflow on line 0, the frame flag on line 193 and not on 192. -/
theorem test_tick_line_start :
    answers (exec .tick { base with regs := { zeroRegs with lineReload := 2, lineIrqEnable := true } })
        (fun t => t.counters.lineCounter == 2#8 && t.flags.lineIrqPending && t.irq)
      ∧ answers (exec .tick { base with counters := { zeroCounters with vLine := 193 } })
        (fun t => t.flags == { zeroFlags with frameIrqPending := true } && !t.irq)
      ∧ answers (exec .tick { base with counters := { zeroCounters with vLine := 192 } })
        (fun t => t.flags == { zeroFlags with lineIrqPending := true }) := by decide

/-- Row S9 and program P4: four selected, the fifth recorded, the sixth not read. -/
theorem test_eval_overflow :
    answers (exec (.eval 52) sixSprites)
      (fun t => t.sprites.map (·.x) == [0#8, 8#8, 16#8, 24#8] && t.flags.spriteOverflow && t.flags.fifthSprite == 4#5
        && t.evalLine == some 52) := by decide

/-- Row E1, row S8: early clip and colour; a terminator hides the slots after it. -/
theorem test_eval_entry :
    answers (exec (.eval 0x11) { base with vram :=
        [(0, 0x10#8), (1, 0x05#8), (2, 0x03#8), (3, 0x8A#8), (4, 0xD0#8), (8, 0x10#8)] })
      (fun t => t.sprites == [{ x := 0xE5, y := 0x11, pattern := 3, color := 0xA }] && t.flags == zeroFlags) := by decide

/-- R190's example, and row CP1: colour 0 hides and still collides. -/
theorem test_comp_collision :
    answers (exec (.comp 14 100) twoSprites) (fun t => t.spriteOut == some (.color 15) && t.flags.spriteCollision)
      ∧ answers (exec (.comp 10 100) { twoSprites with
          sprites := [{ x := 10, y := 100, pattern := 0, color := 0 }, { x := 10, y := 100, pattern := 0, color := 5 }] })
        (fun t => t.spriteOut == some .transparent && t.flags.spriteCollision) := by decide

/-- Row CP4, R192's example: the right half of a 16-wide sprite. -/
theorem test_comp_right_half :
    answers (exec (.comp 9 3) { base with
        regs := { zeroRegs with spritePatternBase := 1, spriteSize := true }, evalLine := some 3
        sprites := [{ x := 0, y := 0, pattern := 4, color := 7 }], vram := [(0x0833, 0x40#8)] })
      (fun t => t.spriteOut == some (.color 7) && !t.flags.spriteCollision) := by decide

/-- Row X1: reset zeroes the block and keeps VRAM. -/
theorem test_reset :
    answers (exec .reset { sixSprites with flags := { zeroFlags with spriteCollision := true }, evalLine := some 3
                                           port := { zeroPort with ctrlPhase := true, address := 7 } })
      (fun t => t == sixSprites) := by decide

/-! ### The scheduler's obligations -/

/-- Line 52 of program P4 after its line start. -/
def onLine52 : State := { sixSprites with counters := { zeroCounters with vLine := 52, hPixel := 1 } }

/-- 70_reset_and_hazards.md R250 c: once for each offset of a line, whatever is evaluated again within it, and anew
on the next line. -/
theorem test_schedule_offsets :
    keepsSchedule ⟨[], true⟩ onLine52 [.eval 52, .comp 0 52, .rs, .comp 1 52] = true
      ∧ keepsSchedule ⟨[], true⟩ onLine52 [.eval 52, .comp 0 52, .comp 0 52] = false
      ∧ keepsSchedule ⟨[], true⟩ onLine52 [.eval 52, .comp 0 52, .eval 52, .comp 0 52] = false
      ∧ keepsSchedule ⟨[], true⟩ onLine52
          [.eval 52, .comp 0 52, .tick, .tick, .tick, .tick, .eval 53, .comp 0 53] = true := by decide

/-- R250 a, b: not before the line start, not another line, not a line that was not evaluated. -/
theorem test_schedule_lines :
    keepsSchedule ⟨[], true⟩ onLine52 [.tick, .tick, .tick, .eval 53] = false
      ∧ keepsSchedule ⟨[], true⟩ onLine52 [.eval 51] = false
      ∧ keepsSchedule ⟨[], true⟩ onLine52 [.comp 0 52] = false := by decide

/-! ### Witnesses: the hypotheses of each statement, met together by a concrete state -/

/-- A state with a read issued and nothing after it. -/
def issued : State := base.setPending [.host 0b00100000000#11]

theorem witness_StepPerformsTheDecodedOperation :
    issued.pending = .host 0b00100000000#11 :: [] ∧ decode issued.port.ctrlPhase (.host 0b00100000000#11) = .ok .rs
      ∧ answers (step issued) (fun t => t.returned == some 0#8 && t.pending == []) :=
  ⟨rfl, rfl, by decide⟩

theorem witness_StepPerformsTheDecodedOperation_refused :
    decode (base.setPending [.host 0b11100000000#11]).port.ctrlPhase (.host 0b11100000000#11)
        = .error .unusedHostSelector
      ∧ refuses (step (base.setPending [.host 0b11100000000#11])) (.rejectedWord .unusedHostSelector) :=
  ⟨rfl, by decide⟩

theorem witness_StepPerformsTheDecodedOperation_idle : base.pending = [] ∧ step base = .next base := ⟨rfl, rfl⟩

theorem witness_TableWordIsPerformedNext :
    base.port.ctrlPhase = false ∧ decodeTableWord 24 0x23400 = some (.eval 52)
      ∧ step (base.withFetchWord 24 0x23400) = exec (.eval 52) base := ⟨rfl, by decide, rfl⟩

/-- At the top of the line field, and for a word that one phase alone reads. -/
theorem witness_EncodedOperationDecodesBack :
    (Instr.comp 0xFF 511).wellFormed = true ∧ (Instr.comp 0xFF 511).readIn false = true
      ∧ (Instr.wcHi 0xFF).wellFormed = true ∧ (Instr.wcHi 0xFF).readIn true = true
      ∧ (Instr.wcHi 0xFF).readIn false = false := by decide

theorem witness_DecodedOperationIsWellFormed :
    decode true (.video 0b1011111111111111111#19) = .ok (.comp 0xFF 511) := by rfl

/-- Each clause: a register word of code 2 and of another, a host word on either side of selector 111, the first discarded index, and 0xA
when it is no register. -/
theorem witness_OnlyTheUnusedSelectorIsRefused :
    decode false (.register 0x8F55#16) = .ok (.regF 0 0x55) ∧ decode false (.register 0x3FFF#16) = .ok (.vread 0x3FFF)
      ∧ (0b11000000000#11).extractLsb' 8 3 ≠ 7#3
      ∧ (0b11100000000#11).extractLsb' 8 3 = 7#3 ∧ 11 ≤ (11#4).toNat
      ∧ ({ defaultConfig 4 with regAIsLineCounter := false } : Config).regAIsLineCounter = false :=
  ⟨rfl, rfl, by decide, by decide, by decide, rfl⟩

/-- The VRAM clause at codes 0 and 2, the CRAM clause at code 3, on both variants. -/
theorem witness_WriteDataStoresThenIncrements :
    zeroPort.code.toNat ≤ 2 ∧ ({ zeroPort with code := 2 } : PortLatches).code.toNat ≤ 2
      ∧ ({ zeroPort with code := 3 } : PortLatches).code = 3#2
      ∧ 0x3FFF % cramEntries .entries32 = 31 ∧ 0x3FFF % cramEntries .entries64 = 63 := by decide

/-- Shared by every statement that starts in phase 0, under both readings of the low byte. -/
theorem witness_phase_zero :
    base.port.ctrlPhase = false ∧ base.cfg.ctrlLowImmediate = true
      ∧ ({ base with cfg := { defaultConfig 4 with ctrlLowImmediate := false } } : State).port.ctrlPhase = false := by
  decide

/-- Phase 1, with a high byte of each code. -/
theorem witness_HighControlByteComposesAndDispatches :
    inPhaseOne.port.ctrlPhase = true
      ∧ answers (exec (.wcHi 0x3F) { inPhaseOne with vram := [(0x3F00, 0x22#8)] })
        (fun t => t.port.code == 0#2 && t.port.readLatch == 0x22#8 && t.port.address == 0x3F01#14)
      ∧ answers (exec (.wcHi 0x40) inPhaseOne) (fun t => t.port.code == 1#2)
      ∧ answers (exec (.wcHi 0x80) inPhaseOne) (fun t => t.port.code == 2#2)
      ∧ answers (exec (.wcHi 0xFF) inPhaseOne) (fun t => t.port.code == 3#2 && t.port.address == 0x3F00#14) := by decide

/-- A command of each format. -/
theorem witness_CommandWordIsItsTwoControlWrites :
    encode (.vread 0x3FFF) = .control 0x3FFF#16 ∧ encode (.regF 3 0x55) = .register 0xBF55#16 := by decide

/-- Row X3: the first byte completes the pair, the second is pending. -/
theorem witness_CommandWordInPhaseOneIsTakenApart :
    encode (.vwrite 0x1234) = .control 0x5234#16 ∧ inPhaseOne.port.ctrlPhase = true
      ∧ answers (exec (.vwrite 0x1234) { inPhaseOne with vram := [(0x3400, 0x9A#8)] })
        (fun t => t.port.code == 0#2 && t.port.address == 0x3452#14 && t.port.ctrlPhase && t.port.readLatch == 0x9A#8) := by
  decide

/-- Row S4, a pair that ends in each kind of code. -/
theorem witness_ControlWritesAlternate :
    base.port.ctrlPhase = false ∧ answers (exec (.wcHi 0x62) { base with port := { zeroPort with ctrlPhase := true, address := 0x11 } })
        (fun t => t.port.code == 1#2 && t.port.address == 0x2211#14)
      ∧ answers (exec (.wcHi 0x3F) { base with port := { zeroPort with ctrlPhase := true, address := 0xFF } })
        (fun t => t.port.code == 0#2 && t.port.address == 0#14) := by decide

theorem witness_OperationsOutsideTheSpriteStagesComplete :
    (∀ l, Instr.regF 0 0xFF ≠ .eval l) ∧ (∀ h l, Instr.regF 0 0xFF ≠ .comp h l) := ⟨nofun, nofun⟩

theorem witness_ReadStreamWrapsTheAddress :
    ({ base with port := { zeroPort with address := 0x3FFF }, pending := [encode .rd, encode .rd] } : State).pending
      = List.replicate 2 (encode .rd) := rfl

theorem witness_ReloadRegisterTakesTheByte :
    base.port.ctrlPhase = false ∧ base.cfg.regAIsLineCounter = true := by decide

theorem witness_WritesToMissingRegistersAreDiscarded :
    base.port.ctrlPhase = false
      ∧ ({ base with cfg := { defaultConfig 4 with regAIsLineCounter := false } } : State).cfg.regAIsLineCounter = false := by
  decide

/-- The last pixel of a line, at the smallest and the largest `H_PERIOD`, and a pixel inside it. -/
theorem witness_TickAdvancesTheRawCounters :
    (0#16).toNat < (defaultConfig 1).hPeriod ∧ (0xFFFF#16).toNat < (defaultConfig 65536).hPeriod
      ∧ (defaultConfig 65536).hPeriod ≤ 65536 ∧ (1#16) ≠ 0 ∧ (1#16).toNat < (defaultConfig 4).hPeriod := by decide

/-- Lines `h` and `h + 1`, the counter at 0 and not. -/
theorem witness_LineStartStepsTheLineCounter :
    base.counters.hPixel = 0 ∧ base.cfg.lineCounterModel = .countdown
      ∧ answers (exec .tick { base with counters := { zeroCounters with vLine := 192, lineCounter := 1 } })
        (fun t => t.counters.lineCounter == 0#8 && t.flags == zeroFlags)
      ∧ answers (exec .tick { base with regs := { zeroRegs with lineReload := 9 }
                                        counters := { zeroCounters with vLine := 193 } })
        (fun t => t.counters.lineCounter == 9#8 && t.flags == { zeroFlags with frameIrqPending := true }) :=
  ⟨rfl, rfl, by decide, by decide⟩

/-- A configuration for each clause: both NTSC regions, PAL, the default table. -/
theorem witness_VCounterTableRows :
    ({ defaultConfig 4 with region := .ntscJ } : Config).region = .ntscJ ∧ (defaultConfig 4).region ≠ .pal
      ∧ ({ defaultConfig 4 with region := .pal } : Config).region = .pal
      ∧ (defaultConfig 4).vcountTable = defaultVCountTable := by decide

/-- The last active line of the tallest display. -/
theorem witness_ActiveLinesReadUnchanged :
    (defaultConfig 4).vcountTable = defaultVCountTable ∧ 239 < vheight 0b1110#4
      ∧ answers (exec .rv { base with regs := { zeroRegs with mode := 0b1110 }, counters := { zeroCounters with vLine := 239 } })
        (fun t => t.returned == some 239#8) := by decide

theorem witness_CountersMoveOnlyByTheTimeline :
    exec .rv base = .next (base.returnByte (vcounterView base)) ∧ Instr.rv ≠ .tick ∧ Instr.rv ≠ .reset
      ∧ Instr.rv ≠ .lh := ⟨rfl, nofun, nofun, nofun⟩

/-- Rows E18 and E19, and the last line admitted. -/
theorem witness_EvaluationRefusedExactly :
    refuses (exec (.eval 256) base) .lineOutOfRange ∧ refuses (exec (.eval 0) legacyMode4) .mode4Sprites
      ∧ answers (exec (.eval 255) sixSprites) (fun t => t.sprites == []) := by decide

theorem witness_SlotEntryIsTransformed :
    (31 : Nat) < 32 ∧ (satBase { zeroRegs with spriteAttrBase := 0x7F } + BitVec.ofNat 14 (4 * 31 + 3)) = 0x3FFF#14 := by
  decide

theorem witness_EvaluationSelectsTheFirstFourVisible :
    (52 : Nat) ≤ 255 ∧ ¬ (sixSprites.cfg.spriteEngineScope = .legacyOnly ∧ sixSprites.regs.mode.getLsbD 3 = true)
      ∧ visibleSlots sixSprites 52 = [0, 1, 2, 3, 4, 5] := by decide

/-- Program P4's table against the same table with the bytes after the terminator rewritten. -/
theorem witness_SlotsAfterTheTerminatorAreIgnored :
    slotByte sixSprites 6 0 = satSentinel
      ∧ ∀ i j, i ≤ 6 → j < 4 →
        slotByte { sixSprites with vram := sixSprites.vram ++ [(28, 0x31#8)] } i j = slotByte sixSprites i j := by
  refine ⟨by decide, fun i j hi hj => ?_⟩
  interval_cases i <;> interval_cases j <;> rfl

/-- Rows CP11 and E19's mode, and an admitted step. -/
theorem witness_CompositingRefusedExactly :
    refuses (exec (.comp 0 101) twoSprites) .notEvaluated ∧ refuses (exec (.comp 0 0) legacyMode4) .mode4Sprites
      ∧ answers (exec (.comp 9 100) twoSprites) (fun t => t.spriteOut == some .transparent) := by decide

/-- An entry that starts on the line itself. -/
theorem witness_OpaquePixelTest :
    (100#8).toNat ≤ 100
      ∧ opaqueAt twoSprites 17 100 { x := 10, y := 100, pattern := 0, color := 15 } = true
      ∧ opaqueAt twoSprites 18 100 { x := 10, y := 100, pattern := 0, color := 15 } = false := by decide

theorem witness_CompositingEmitsFirstOpaqueAndDetectsCollision :
    twoSprites.evalLine = some 100
      ∧ ¬ (twoSprites.cfg.spriteEngineScope = .legacyOnly ∧ twoSprites.regs.mode.getLsbD 3 = true)
      ∧ (opaqueEntries twoSprites 14 100).map (·.color) = [15, 4] := by decide

theorem witness_WorkingSetLastsUntilTheNextEvaluation :
    exec (.eval 52) sixSprites = .next (evaluate 52 sixSprites)
      ∧ exec .rs (evaluate 52 sixSprites) = .next (readStatus (evaluate 52 sixSprites))
      ∧ (∀ l, Instr.rs ≠ .eval l) ∧ Instr.rs ≠ .reset ∧ sixSprites.cfg.spriteEngineScope = .allModes :=
  ⟨rfl, rfl, nofun, nofun, rfl⟩

theorem witness_PendingFlagsAreClearedOnlyByStatusReadOrReset :
    let s : State := { base with flags := { zeroFlags with frameIrqPending := true, lineIrqPending := true } }
    exec .tick s = .next (tick s) ∧ Instr.tick ≠ .rs ∧ Instr.tick ≠ .reset
      ∧ s.flags.frameIrqPending = true ∧ s.flags.lineIrqPending = true := ⟨rfl, nofun, nofun, rfl, rfl⟩

/-- A stage that sets each flag: an evaluation, a compositing step, a tick. -/
theorem witness_StatusFlagsAreSetOnlyByTheirStage :
    (evaluate 52 sixSprites).flags.spriteOverflow = true ∧ (composite 14 100 twoSprites).flags.spriteCollision = true
      ∧ (tick base).flags.lineIrqPending = true
      ∧ exec .rd twoSprites = .next (readData twoSprites) ∧ Instr.rd ≠ .reset ∧ Instr.rd ≠ .rs :=
  ⟨by decide, by decide, by decide, rfl, nofun, nofun⟩

/-- Rows Q2 and Q4: an enable written over a pending flag raises the output. -/
theorem witness_InterruptOutputFollowsTheEnables :
    base.port.ctrlPhase = false
      ∧ answers (exec (.reg1 0 0x20) { base with flags := { zeroFlags with frameIrqPending := true } }) State.irq
      ∧ answers (exec (.reg0 0 0x10) { base with flags := { zeroFlags with lineIrqPending := true } }) State.irq := by decide

theorem witness_ConfigurationNeverChanges : step issued = .next (readStatus (issued.setPending [])) := rfl

/-- A state with both memories written, two sprites selected and the counters at the end of the frame. -/
def busy : State :=
  { twoSprites with cram := [(0, 1#8), (31, 2#8)], counters := { zeroCounters with hPixel := 3, vLine := 261 }
                    pending := [.video 0#19] }

/-- A store that changes a byte, in each space. -/
theorem witness_MemoriesAreWrittenOnlyByWriteData :
    exec (.wd 0x32) sixSprites = .next (writeData 0x32 sixSprites)
      ∧ vramRead (writeData 0x32 sixSprites) 0 ≠ vramRead sixSprites 0
      ∧ cramRead (writeData 9 { busy with port := { zeroPort with code := 3 } }) 0 ≠ cramRead busy 0 :=
  ⟨rfl, by decide, by decide⟩

theorem witness_RegisterFileIsReachedOnlyThroughTheControlPort :
    Instr.reg8 0 0x80 ≠ .reset ∧ exec (.reg8 0 0x80) base = .next (controlPair 0x8880#16 base)
      ∧ (controlPair 0x8880#16 base).regs ≠ base.regs := ⟨nofun, rfl, by decide⟩

theorem witness_StepKeepsTheInvariant : busy.Inv ∧ step busy = .next (tick (busy.setPending [])) := by
  refine ⟨⟨⟨by decide, by decide, by decide, by decide, by decide, by decide⟩, by decide, by decide, by decide,
    by decide, by decide, by decide, by decide, ?_, ?_⟩, rfl⟩
  · intro l hl; cases hl; decide
  · intro e he; exact ⟨100, rfl, by revert e; decide⟩

/-- The last active line of the tallest display, and a compositing step. -/
theorem witness_ScheduledOperationsComplete :
    base.cfg.spriteEngineScope = .allModes
      ∧ scheduled { base with regs := { zeroRegs with mode := 0b1110 }
                              counters := { zeroCounters with vLine := 239, hPixel := 1 } } (.eval 239) = true
      ∧ scheduled twoSprites (.comp 0xFF 100) = true := by decide

end Sys2Proof.Tests
end

section
/-!
PROOFS. The control-port pair and the phase (spec/10_state.md R37, R52; spec/40_register_protocol.md R100 to R105):
the port after each control write, and the accesses that reset the phase. Settles O16.
-/

namespace Sys2Proof.Machine

variable (s : State)

@[simp] theorem readData_ctrlPhase : (readData s).port.ctrlPhase = false := rfl
@[simp] theorem readStatus_ctrlPhase : (readStatus s).port.ctrlPhase = false := rfl
@[simp] theorem writeData_ctrlPhase (d : Byte) : (writeData d s).port.ctrlPhase = false := rfl

/-- Every control write toggles the phase (R94, R103, R104). -/
@[simp] theorem writeControl_ctrlPhase (d : Byte) : (writeControl d s).port.ctrlPhase = !s.port.ctrlPhase := by
  obtain ⟨-, -, -, -, -, -, -, -, -, -, hphase⟩ := writeControl_fields s d
  exact hphase

/-- A low control byte is the pending low byte, wherever the configuration holds it (R103, D8). -/
theorem pendingLow_writeControl (d : Byte) (h : s.port.ctrlPhase = false) : pendingLow (writeControl d s) = d := by
  cases hi : s.cfg.ctrlLowImmediate <;> simp [writeControl, controlLow, pendingLow, h, hi]

/-- Of the command actions only the read setup's refill moves the address (R104 to R107). -/
theorem commandAction_address :
    (commandAction s).port.address
      = if s.port.code = 0#2 then nextAddress s.port.address else s.port.address := by
  obtain ⟨hcode, h⟩ | ⟨hcode, h⟩ | ⟨hcode, -, h⟩ := commandAction_cases s
  · have : s.port.code = 0#2 := BitVec.eq_of_toNat_eq hcode
    simp [h, this, refill]
  · have : s.port.code ≠ 0#2 := fun e => by simp [e] at hcode
    simp [h, this, registerCommand]
  · have : s.port.code ≠ 0#2 := fun e => by simp [e] at hcode
    simp [h, this]

/-- A high control byte sets the access code (R104). -/
theorem writeControl_high_code (d : Byte) (h : s.port.ctrlPhase = true) :
    (writeControl d s).port.code = accessCode d := by
  rw [writeControl, if_pos h, controlHigh]
  obtain ⟨-, -, -, -, -, -, -, -, -, -, -, hcode, -⟩ := commandAction_fields (s.setPort
    { s.port with address := composeAddress d (pendingLow s), code := accessCode d, ctrlPhase := false })
  exact hcode

/-- A high control byte composes the address over the pending low byte; a read setup then increments it (R104,
R105). -/
theorem writeControl_high_address (d : Byte) (h : s.port.ctrlPhase = true) :
    (writeControl d s).port.address
      = if accessCode d = 0#2 then nextAddress (composeAddress d (pendingLow s))
        else composeAddress d (pendingLow s) := by
  rw [writeControl, if_pos h, controlHigh, commandAction_address, State.setPort_port]

/-- Two control writes from phase 0 leave the code and the address of one operand (R52, R104, R105). -/
theorem writeControl_pair_operand (b₁ b₂ : Byte) (h : s.port.ctrlPhase = false) :
    (writeControl b₂ (writeControl b₁ s)).port.code = accessCode b₂
      ∧ (writeControl b₂ (writeControl b₁ s)).port.address
        = if accessCode b₂ = 0#2 then nextAddress (composeAddress b₂ b₁) else composeAddress b₂ b₁ := by
  have hphase : (writeControl b₁ s).port.ctrlPhase = true := by simp [h]
  refine ⟨writeControl_high_code _ b₂ hphase, ?_⟩
  rw [writeControl_high_address _ b₂ hphase, pendingLow_writeControl s b₁ h]

/-- Settles O16: each control write toggles the phase, the second composes its byte over the first, and the three
other port accesses clear the phase. -/
theorem controlWritesAlternate : Obligations.ControlWritesAlternate := by
  refine ⟨fun s b₁ b₂ b₃ h => ?_, fun s d => ⟨⟨readData s, rfl, readData_ctrlPhase s⟩,
    ⟨readStatus s, rfl, readStatus_ctrlPhase s⟩, ⟨writeData d s, rfl, writeData_ctrlPhase s d⟩⟩⟩
  obtain ⟨hcode, haddr⟩ := writeControl_pair_operand s b₁ b₂ h
  refine ⟨_, _, _, rfl, rfl, rfl, by simp [h], by simp [h], by simp [h], ?_, fun hne => ?_, fun heq => ?_⟩
  · rw [hcode, accessCode_toNat]
  · rw [haddr, if_neg (hcode ▸ hne), composeAddress_toNat]
  · rw [haddr, if_pos (hcode ▸ heq), nextAddress_toNat, composeAddress_toNat]

end Sys2Proof.Machine
end

section
/-! PROOFS. The sprite extent (spec/10_state.md R49). Settles O29. -/

namespace Sys2Proof.Machine

/-- A shift by a flag doubles when the flag is set. -/
theorem shiftLeft_flag (n : Nat) (b : Bool) : n <<< b.toNat = n * if b then 2 else 1 := by
  cases b
  · exact (Nat.mul_one n).symm
  · exact Nat.shiftLeft_eq n 1

/-- Settles O29: each shift of the extent doubles when its flag is set, and the four values are `spriteLimit_eq`. -/
theorem spriteExtentBySizeAndZoom : Obligations.SpriteExtentBySizeAndZoom := fun r =>
  ⟨by rw [spriteLimit, shiftLeft_flag, shiftLeft_flag], spriteLimit_eq r⟩

end Sys2Proof.Machine
end

section
/-!
PROOFS. The frame of the state's updates, and from it the three port accesses of spec/40_register_protocol.md that
answer or complete a control pair: `readData` (R100), `readStatus` (R101) and the high control byte (R104, R105,
R107). Settles O7, O8, O11.
-/

namespace Sys2Proof.Machine

/-! ### The frame: an update of a named part stays inside it -/

section
variable {parts : List Part} {s t : State}

/-- A state that does not change stays inside every frame. -/
theorem sameOutside_refl (parts : List Part) (s : State) : sameOutside parts s s := by simp [sameOutside]

theorem sameOutside.setPort (h : sameOutside parts s t) (hmem : Part.port ∈ parts) (p : PortLatches) :
    sameOutside parts s (t.setPort p) := by
  simpa [sameOutside, hmem] using h

theorem sameOutside.setFlags (h : sameOutside parts s t) (hmem : Part.flags ∈ parts) (f : StatusFlags) :
    sameOutside parts s (t.setFlags f) := by
  simpa [sameOutside, hmem] using h

theorem sameOutside.returnByte (h : sameOutside parts s t) (hmem : Part.returned ∈ parts) (v : Byte) :
    sameOutside parts s (t.returnByte v) := by
  simpa [sameOutside, hmem] using h

end

variable (s : State)

/-! ### `readData` and `readStatus` -/

/-- The port after `readData` (R100). -/
theorem readData_port :
    (readData s).port = { s.port with
      ctrlPhase := false, readLatch := vramRead s s.port.address, address := nextAddress s.port.address } := rfl

/-- `readData` touches the port and the returned byte only (R100). -/
theorem readData_frame : sameOutside [.port, .returned] s (readData s) :=
  (((sameOutside_refl _ s).returnByte (by decide) _).setPort (by decide) _).setPort (by decide) _

/-- Settles O7: the port after `readData` is `readData_port`, and its increment wraps by `nextAddress_toNat`. -/
theorem readDataReturnsLatchThenRefills : Obligations.ReadDataReturnsLatchThenRefills := by
  intro s
  refine ⟨readData s, rfl, rfl, ?_⟩
  rw [readData_port]
  exact ⟨rfl, rfl, nextAddress_toNat s.port.address, rfl, rfl, readData_frame s⟩

/-- `readStatus` returns the status byte of the flags it finds (R101). -/
theorem readStatus_returned : (readStatus s).returned = some (statusByte s.flags) := rfl

/-- `readStatus` leaves the five flags clear (R101). -/
theorem readStatus_flags : (readStatus s).flags = clearedFlags := rfl

/-- `readStatus` touches the port, the flags and the returned byte only (R101). -/
theorem readStatus_frame : sameOutside [.port, .flags, .returned] s (readStatus s) :=
  (((sameOutside_refl _ s).returnByte (by decide) _).setPort (by decide) _).setFlags (by decide) _

/-- The status byte of the cleared flags (R88). -/
theorem statusByte_clearedFlags : statusByte clearedFlags = 0 := by decide

/-- A second `readStatus` at once returns zero (R101). -/
theorem readStatus_twice_returned : (readStatus (readStatus s)).returned = some 0 := by
  rw [readStatus_returned, readStatus_flags, statusByte_clearedFlags]

/-- Settles O8: the byte's fields are `statusByte_fields`, and the second read packs cleared flags. -/
theorem readStatusReportsThenClears : Obligations.ReadStatusReportsThenClears := by
  intro s
  obtain ⟨hframeIrq, hoverflow, hcollision, hfifth⟩ := statusByte_fields s.flags
  exact ⟨readStatus s, statusByte s.flags, rfl, rfl, hframeIrq, hoverflow, hcollision, hfifth, rfl, rfl, rfl, rfl,
    rfl, rfl, readStatus_frame s, readStatus (readStatus s), rfl, readStatus_twice_returned s⟩

/-! ### The high control byte -/

/-- Of the command actions only the read setup's refill loads the latch (R104 to R107). -/
theorem commandAction_readLatch :
    (commandAction s).port.readLatch
      = if s.port.code = 0#2 then vramRead s s.port.address else s.port.readLatch := by
  obtain ⟨hcode, h⟩ | ⟨hcode, h⟩ | ⟨hcode, -, h⟩ := commandAction_cases s <;>
    simp [h, BitVec.toNat_eq, hcode, refill, registerCommand]

/-- Of the command actions only the register write changes a register (R104 to R107). -/
theorem commandAction_regs :
    (commandAction s).regs
      = if s.port.code = 2#2 then
          registerWrite s.cfg (registerIndex s.port.address) (lowByteOf s.port.address) s.regs
        else s.regs := by
  obtain ⟨hcode, h⟩ | ⟨hcode, h⟩ | ⟨-, hcode, h⟩ := commandAction_cases s <;>
    simp [h, BitVec.toNat_eq, hcode, refill, registerCommand]

/-- A high control byte completes the pair, then performs the command (R104). -/
theorem writeControl_high_eq (d : Byte) (h : s.port.ctrlPhase = true) :
    writeControl d s = commandAction (s.setPort
      { s.port with address := composeAddress d (pendingLow s), code := accessCode d, ctrlPhase := false }) := by
  rw [writeControl, if_pos h, controlHigh]

/-- A high control byte keeps the held low byte (R104). -/
theorem writeControl_high_ctrlLow (d : Byte) (h : s.port.ctrlPhase = true) :
    (writeControl d s).port.ctrlLow = s.port.ctrlLow := by
  rw [writeControl_high_eq s d h]
  obtain ⟨-, -, -, -, -, -, -, -, -, -, -, -, hlow⟩ := commandAction_fields (s.setPort
    { s.port with address := composeAddress d (pendingLow s), code := accessCode d, ctrlPhase := false })
  exact hlow

/-- A high control byte loads the latch from the composed address for a read setup, and keeps it otherwise (R104,
R105). -/
theorem writeControl_high_readLatch (d : Byte) (h : s.port.ctrlPhase = true) :
    (writeControl d s).port.readLatch
      = if accessCode d = 0#2 then vramRead s (composeAddress d (pendingLow s)) else s.port.readLatch := by
  rw [writeControl_high_eq s d h, commandAction_readLatch, State.setPort_port, vramRead_setPort]

/-- A high control byte with code 2 writes the register that the composed address names (R104, R107). -/
theorem writeControl_high_regs (d : Byte) (h : s.port.ctrlPhase = true) :
    (writeControl d s).regs
      = if accessCode d = 2#2 then
          registerWrite s.cfg (registerIndex (composeAddress d (pendingLow s)))
            (lowByteOf (composeAddress d (pendingLow s))) s.regs
        else s.regs := by
  rw [writeControl_high_eq s d h, commandAction_regs, State.setPort_port, State.setPort_cfg, State.setPort_regs]

/-- A control write touches the registers and the port only (R103, R104). -/
theorem writeControl_frame (d : Byte) : sameOutside [.regs, .port] s (writeControl d s) := by
  obtain ⟨hcfg, hflags, hcounters, hsprites, hevalLine, hvram, hcram, hpending, hreturned, hspriteOut, -⟩ :=
    writeControl_fields s d
  exact ⟨hcfg, hpending, fun h => absurd (by decide) h, fun h => absurd (by decide) h, fun _ => hflags,
    fun _ => hcounters, fun _ => ⟨hsprites, hevalLine⟩, fun _ => vramRead_congr hcfg hvram,
    fun _ => cramRead_congr hcfg hcram, fun _ => hreturned, fun _ => hspriteOut⟩

/-- The pending low byte as a number (R103, D8). -/
theorem pendingLow_toNat :
    (pendingLow s).toNat
      = if s.cfg.ctrlLowImmediate then s.port.address.toNat % 256 else s.port.ctrlLow.toNat := by
  rw [pendingLow, apply_ite BitVec.toNat, lowByteOf_toNat]

/-- The register index is the address above its low byte, in four bits (R86). -/
theorem registerIndex_eq_ofNat (a : VramAddr) : registerIndex a = BitVec.ofNat 4 (a.toNat / 256) :=
  BitVec.eq_of_toNat_eq (by rw [registerIndex_toNat, BitVec.toNat_ofNat])

/-- The data of a register command is the address in eight bits (R86). -/
theorem lowByteOf_eq_ofNat (a : VramAddr) : lowByteOf a = BitVec.ofNat 8 a.toNat :=
  BitVec.eq_of_toNat_eq (by rw [lowByteOf_toNat, BitVec.toNat_ofNat])

/-- Settles O11: the address is composed over the pending low byte, and each field the command may change has its
own equation by the access code. -/
theorem highControlByteComposesAndDispatches : Obligations.HighControlByteComposesAndDispatches := by
  intro s d h
  refine ⟨writeControl d s, rfl, by simp [h], ?_, writeControl_high_ctrlLow s d h, composeAddress d (pendingLow s),
    ?_, ?_⟩
  · rw [writeControl_high_code s d h, accessCode_toNat]
  · rw [composeAddress_toNat, pendingLow_toNat]
  · rw [writeControl_high_code s d h, writeControl_high_readLatch s d h, writeControl_high_address s d h,
      writeControl_high_regs s d h, ← registerIndex_eq_ofNat, ← lowByteOf_eq_ofNat]
    refine ⟨fun hcode => ?_, fun hcode => ?_, fun hcode => if_pos hcode, fun hcode => if_neg hcode,
      writeControl_frame s d⟩
    · rw [if_pos hcode, if_pos hcode, nextAddress_toNat]
      exact ⟨rfl, rfl⟩
    · exact ⟨if_neg hcode, if_neg hcode⟩

end Sys2Proof.Machine
end

section
/-!
PROOFS. The decoder and the encoder (spec/30_encoding.md R81 to R87, R93): each word format decodes to its row, and
what is decoded fits its word. Settles O3, O4, O5.
-/

namespace Sys2Proof

variable (ph : Bool)

/-! ### Decoding an encoded operation -/

/-- A host word is read by its selector and its byte (R81). -/
theorem decode_hostWord (sel : BitVec 3) (d : Byte) : decode ph (hostWord sel d) = decodeHost ph (sel ++ d) := rfl

/-- The command of a code and an address; code 2 is the register write of its fields (R85, R86). -/
theorem decode_controlWord (code : BitVec 2) (a : VramAddr) (h : code ≠ 2#2) :
    decode ph (.control (controlWord code a))
      = .ok (if code = 0#2 then .vread a else if code = 1#2 then .vwrite a else .cwrite a) := by
  have hcode : code = 0#2 ∨ code = 1#2 ∨ code = 3#2 := by revert h; revert code; decide
  obtain rfl | rfl | rfl := hcode <;>
    simp [decode, decodeControl, controlWord_code, controlWord_address]

/-- A register word in the control format is `SETREG` of its fields (R86). -/
theorem decode_control_registerWord (x : BitVec 2) (r : BitVec 4) (d : Byte) :
    decode ph (.control (registerWord x r d)) = .ok (.setreg x r d) := by
  simp [decode, decodeControl, registerWord_code, registerWord_ignored, registerWord_index, registerWord_data]

/-- A register word in the register format is the row of its index (R87). -/
theorem decode_register_registerWord (x : BitVec 2) (r : BitVec 4) (d : Byte) :
    decode ph (.register (registerWord x r d)) = .ok (registerInstr r x d) := by
  simp [decode, decodeRegister, registerWord_code, registerWord_ignored, registerWord_index, registerWord_data]

/-- A well-formed operation's word decodes back to it in a phase that it is read in. -/
theorem decode_encode {i : Instr} (hw : i.wellFormed = true) (hr : i.readIn ph = true) :
    decode ph (encode i) = .ok i := by
  cases i with
  | rd | rs | wd _ | rv | rh | lh =>
    simp [encode, decode_hostWord, decodeHost, hostBits_selector, hostBits_byte]
  | wcLo _ | wcHi _ =>
    obtain rfl : ph = _ := by simpa [Instr.readIn] using hr
    simp [encode, decode_hostWord, decodeHost, hostBits_selector, hostBits_byte]
  | vread a | vwrite a | cwrite a => exact decode_controlWord ph _ a (by decide)
  | setreg x r d => exact decode_control_registerWord ph x r d
  | reg0 x d | reg1 x d | reg2 x d | reg3 x d | reg4 x d | reg5 x d | reg6 x d | reg7 x d
  | reg8 x d | reg9 x d | regA x d | regB x d | regC x d | regD x d | regE x d | regF x d =>
    exact decode_register_registerWord ph x _ d
  | tick | reset => simp [encode, videoWord, decode, decodeVideo]
  | eval line =>
    have hline : line < 512 := by simpa [Instr.wellFormed] using hw
    simp [encode, videoWord, decode, decodeVideo, videoBits_selector, videoBits_line, Nat.mod_eq_of_lt hline]
  | comp x line =>
    have hline : line < 512 := by simpa [Instr.wellFormed] using hw
    simp [encode, videoWord, decode, decodeVideo, videoBits_selector, videoBits_line, videoBits_offset,
      Nat.mod_eq_of_lt hline]

/-- Settles O4: one field-by-field decoding per word format. -/
theorem encodedOperationDecodesBack : Obligations.EncodedOperationDecodesBack :=
  fun ph _ hw hr => decode_encode ph hw hr

/-! ### What the decoder answers -/

/-- The operations of the two sprite stages, the only ones that a state may refuse (R179, R198). -/
def Instr.isSpriteStage : Instr → Bool
  | .eval _ | .comp _ _ => true
  | _ => false

/-- An operation that fits its word and stands for it in a phase, outside the sprite stages: what every host, control
and register word decodes to. -/
def Instr.isPortOperation (ph : Bool) (i : Instr) : Prop :=
  i.wellFormed = true ∧ i.readIn ph = true ∧ i.isSpriteStage = false

/-- A host word is refused for selector 111, and stands for an operation otherwise (R81, R93). -/
theorem decodeHost_cases (w : BitVec 11) :
    (w.extractLsb' 8 3 = 7#3 ∧ decodeHost ph w = .error .unusedHostSelector)
      ∨ (w.extractLsb' 8 3 ≠ 7#3 ∧ ∃ i, decodeHost ph w = .ok i ∧ i.isPortOperation ph) := by
  generalize hsel : w.extractLsb' 8 3 = sel
  have hcases : ∀ v : BitVec 3, v = 0#3 ∨ v = 1#3 ∨ v = 2#3 ∨ v = 3#3 ∨ v = 4#3 ∨ v = 5#3 ∨ v = 6#3 ∨ v = 7#3 := by
    decide
  obtain rfl | rfl | rfl | rfl | rfl | rfl | rfl | rfl := hcases sel <;> cases ph <;>
    simp [decodeHost, hsel, Instr.isPortOperation, Instr.wellFormed, Instr.readIn, Instr.isSpriteStage]

/-- A control word stands for one of the four commands (R85). -/
theorem decodeControl_isPortOperation (w : BitVec 16) : (decodeControl w).isPortOperation ph := by
  unfold decodeControl
  dsimp only
  split <;> exact ⟨rfl, rfl, rfl⟩

/-- Every register index has a row (R87). -/
theorem registerInstr_isPortOperation (r : BitVec 4) (x : BitVec 2) (d : Byte) :
    (registerInstr r x d).isPortOperation ph := by
  unfold registerInstr
  split <;> exact ⟨rfl, rfl, rfl⟩

/-- A register word stands for a register write or a command (R87, R93; log 2). -/
theorem decodeRegister_isPortOperation (w : BitVec 16) : (decodeRegister w).isPortOperation ph := by
  unfold decodeRegister
  split
  · exact registerInstr_isPortOperation ph _ _ _
  · exact decodeControl_isPortOperation ph w

/-- A video word's line operand has nine bits, and its operation is read in both phases (R82). -/
theorem decodeVideo_fits (w : BitVec 19) :
    (decodeVideo w).wellFormed = true ∧ (decodeVideo w).readIn ph = true := by
  have hline : (w.extractLsb' 8 9).toNat < 512 := (w.extractLsb' 8 9).isLt
  unfold decodeVideo
  split <;> simp only [Instr.wellFormed, Instr.readIn, decide_eq_true_eq, hline, and_self]

/-- A decoded operation fits its word and stands for it in the phase. -/
theorem decode_fits {w : OpWord} {i : Instr} (h : decode ph w = .ok i) :
    i.wellFormed = true ∧ i.readIn ph = true := by
  cases w with
  | host w =>
    obtain ⟨-, herr⟩ | ⟨-, j, hj, hw, hr, -⟩ := decodeHost_cases ph w
    · cases herr.symm.trans h
    · cases hj.symm.trans h
      exact ⟨hw, hr⟩
  | control w =>
    cases h
    obtain ⟨hw, hr, -⟩ := decodeControl_isPortOperation ph w
    exact ⟨hw, hr⟩
  | register w =>
    cases h
    obtain ⟨hw, hr, -⟩ := decodeRegister_isPortOperation ph w
    exact ⟨hw, hr⟩
  | video w =>
    cases h
    exact decodeVideo_fits ph w

/-- Settles O5: what is decoded fits its word, so its own word decodes back to it. -/
theorem decodedOperationIsWellFormed : Obligations.DecodedOperationIsWellFormed := by
  intro ph w i h
  obtain ⟨hw, hr⟩ := decode_fits ph h
  exact ⟨hw, hr, decode_encode ph hw hr⟩

/-- Settles O3: the spec's words are closed, and each decoding is computed. -/
theorem specWordsDecode : Obligations.SpecWordsDecode := by
  unfold Obligations.SpecWordsDecode
  and_intros <;> rfl

end Sys2Proof
end

section
/-!
PROOFS. What the block never reads (spec/10_state.md R53, spec/20_memory.md R63): each update of the state answers
the same up to the unread register fields and CRAM whether or not these are erased before it. Settles O56.
-/

namespace Sys2Proof.Machine

/-- An update does not look at what the block never reads: erased before it or not, its result is the same up to
that. -/
def Blind (f : State → State) : Prop := ∀ s : State, (f s.eraseUnread).eraseUnread = (f s).eraseUnread

/-- Two blind updates in turn are blind. -/
theorem Blind.comp {f g : State → State} (hg : Blind g) (hf : Blind f) : Blind (fun s => g (f s)) := fun s =>
  calc (g (f s.eraseUnread)).eraseUnread
      = (g (f s.eraseUnread).eraseUnread).eraseUnread := (hg _).symm
    _ = (g (f s).eraseUnread).eraseUnread := by rw [hf s]
    _ = (g (f s)).eraseUnread := hg _

/-! ### What the erasure keeps -/

@[simp] theorem State.eraseUnread_cfg (s : State) : s.eraseUnread.cfg = s.cfg := rfl
@[simp] theorem State.eraseUnread_port (s : State) : s.eraseUnread.port = s.port := rfl
@[simp] theorem State.eraseUnread_evalLine (s : State) : s.eraseUnread.evalLine = s.evalLine := rfl

/-! ### Host ports and counters -/

theorem readData_blind : Blind readData := fun _ => rfl

theorem readStatus_blind : Blind readStatus := fun _ => rfl

theorem resetStep_blind : Blind resetStep := fun _ => rfl

/-- The two counter views read the mode, which is kept. -/
theorem vcounterView_blind : Blind fun s => s.returnByte (vcounterView s) := fun _ => rfl

theorem hcounterView_blind : Blind fun s => s.returnByte (hcounterView s) := fun _ => rfl

theorem latch_blind : Blind fun s => s.setCounters { s.counters with hLatchRaw := s.counters.hPixel } := fun _ => rfl

theorem tick_blind : Blind tick := by
  intro s
  by_cases h : s.counters.hPixel = 0
  · rw [tick_line_start s h, tick_line_start s.eraseUnread h]
    rfl
  · rw [tick_within_line s h, tick_within_line s.eraseUnread h]
    rfl

/-- A store to CRAM is erased, and one to VRAM does not depend on what is. -/
theorem writeData_blind (d : Byte) : Blind (writeData d) := by
  intro s
  by_cases h : s.port.code.toNat ≤ 2
  · rw [writeData, writeData, storeData_vram s d h, storeData_vram s.eraseUnread d h]
    rfl
  · rw [writeData, writeData, storeData_cram s d h, storeData_cram s.eraseUnread d h]
    rfl

/-- A register write depends on no unread field, but for that field itself (R111 to R122). -/
theorem registerWrite_eraseUnread (c : Config) (i : BitVec 4) (v : Byte) (r : RegFile) :
    RegFile.eraseUnread (registerWrite c i v (RegFile.eraseUnread r)) = RegFile.eraseUnread (registerWrite c i v r) := by
  unfold registerWrite
  split
  case h_11 => cases h : c.regAIsLineCounter <;> simp only [writeRegA, h] <;> rfl
  all_goals rfl

theorem registerCommand_blind : Blind registerCommand := fun s =>
  congrArg (fun r => { s.eraseUnread with regs := r })
    (registerWrite_eraseUnread s.cfg (registerIndex s.port.address) (lowByteOf s.port.address) s.regs)

theorem commandAction_blind : Blind commandAction := by
  intro s
  unfold commandAction
  rw [State.eraseUnread_port]
  split
  · rfl
  · exact registerCommand_blind s
  · rfl

theorem controlLow_blind (d : Byte) : Blind (controlLow d) := by
  intro s
  unfold controlLow
  rw [State.eraseUnread_cfg, State.eraseUnread_port]
  split <;> rfl

theorem controlHigh_blind (d : Byte) : Blind (controlHigh d) :=
  commandAction_blind.comp (f := fun s => s.setPort
    { s.port with address := composeAddress d (pendingLow s), code := accessCode d, ctrlPhase := false }) fun _ => rfl

theorem writeControl_blind (d : Byte) : Blind (writeControl d) := by
  intro s
  unfold writeControl
  rw [State.eraseUnread_port]
  split
  · exact controlHigh_blind d s
  · exact controlLow_blind d s

theorem controlPair_blind (cw : BitVec 16) : Blind (controlPair cw) :=
  (writeControl_blind (secondByte cw)).comp (writeControl_blind (firstByte cw))

/-! ### The sprite stages -/

/-- A slot holds the same terminator mark, entry and visibility in two states. -/
def SameSlot (s t : State) (line j : Nat) : Prop :=
  slotByte t j 0 = slotByte s j 0 ∧ slotEntry t j = slotEntry s j ∧ slotVisible t line j = slotVisible s line j

/-- A walk depends only on the slots that no terminator comes before (R172). -/
theorem walkSlots_congr {s t : State} {line : Nat} (n i : Nat) (acc : List SpriteEntry)
    (h : ∀ j, i ≤ j → (∀ m, i ≤ m → m < j → slotByte s m 0 ≠ satSentinel) → SameSlot s t line j) :
    walkSlots t line n i acc = walkSlots s line n i acc := by
  induction n generalizing i acc with
  | zero => rfl
  | succ n ih =>
    obtain ⟨hbyte, hentry, hvisible⟩ := h i (Nat.le_refl i) fun m h₁ h₂ => absurd h₁ (Nat.not_le_of_lt h₂)
    rw [walkSlots, walkSlots, hbyte, hentry, hvisible]
    by_cases hterm : slotByte s i 0 = satSentinel
    · rw [if_pos hterm, if_pos hterm]
    · have hrest : ∀ acc, walkSlots t line n (i + 1) acc = walkSlots s line n (i + 1) acc := fun acc =>
        ih (i + 1) acc fun j hj hbefore => h j (Nat.le_of_succ_le hj) fun m h₁ h₂ =>
          (Nat.eq_or_lt_of_le h₁).elim (fun e => e ▸ hterm) fun hlt => hbefore m hlt h₂
      rw [hrest, hrest]

theorem evaluate_blind (line : Nat) : Blind (evaluate line) := by
  intro s
  have hwalk : walkSlots s.eraseUnread line satSlots 0 [] = walkSlots s line satSlots 0 [] :=
    walkSlots_congr satSlots 0 [] fun _ _ _ => ⟨rfl, rfl, rfl⟩
  unfold evaluate
  rw [hwalk]
  rfl

theorem composite_blind (h : Byte) (line : Nat) : Blind (composite h line) := by
  intro s
  have hopaque : opaqueAt s.eraseUnread h line = opaqueAt s h line := rfl
  unfold composite
  rw [scanPixel_none, scanPixel_none, hopaque]
  rfl

/-! ### Operations -/

/-- What a blind update answers. -/
theorem Blind.mapNext_eq {f : State → State} (hf : Blind f) (s : State) :
    mapNext State.eraseUnread (.next (f s.eraseUnread)) = mapNext State.eraseUnread (.next (f s)) :=
  congrArg Host.Outcome.next (hf s)

theorem execEval_eraseUnread (line : Nat) (s : State) :
    mapNext State.eraseUnread (execEval line s.eraseUnread) = mapNext State.eraseUnread (execEval line s) := by
  have hmode : modeRefused s.eraseUnread = modeRefused s := rfl
  unfold execEval
  rw [hmode]
  split
  · rfl
  · split
    · rfl
    · exact (evaluate_blind line).mapNext_eq s

theorem execComp_eraseUnread (h : Byte) (line : Nat) (s : State) :
    mapNext State.eraseUnread (execComp h line s.eraseUnread) = mapNext State.eraseUnread (execComp h line s) := by
  have hmode : modeRefused s.eraseUnread = modeRefused s := rfl
  unfold execComp
  rw [hmode, State.eraseUnread_evalLine]
  split
  · rfl
  · split
    · rfl
    · exact (composite_blind h line).mapNext_eq s

/-- Settles O56: every operation is a blind update, and the two that may be refused are so by what is kept. -/
theorem unreadFieldsDoNotInfluenceTheBlock : Obligations.UnreadFieldsDoNotInfluenceTheBlock := by
  intro i s
  cases i with
  | rd => exact readData_blind.mapNext_eq s
  | rs => exact readStatus_blind.mapNext_eq s
  | wd d => exact (writeData_blind d).mapNext_eq s
  | wcLo d | wcHi d => exact (writeControl_blind d).mapNext_eq s
  | rv => exact vcounterView_blind.mapNext_eq s
  | rh => exact hcounterView_blind.mapNext_eq s
  | lh => exact latch_blind.mapNext_eq s
  | tick => exact tick_blind.mapNext_eq s
  | eval line => exact execEval_eraseUnread line s
  | comp h line => exact execComp_eraseUnread h line s
  | reset => exact resetStep_blind.mapNext_eq s
  | vread _ | vwrite _ | setreg _ _ _ | cwrite _ | reg0 _ _ | reg1 _ _ | reg2 _ _ | reg3 _ _ | reg4 _ _ | reg5 _ _
  | reg6 _ _ | reg7 _ _ | reg8 _ _ | reg9 _ _ | regA _ _ | regB _ _ | regC _ _ | regD _ _ | regE _ _ | regF _ _ =>
    exact (controlPair_blind _).mapNext_eq s

end Sys2Proof.Machine
end

section
/-!
PROOFS. What each operation may touch: the frame of every completed operation, and the operations that complete in
every state. From them the whole-machine rules of spec/ (R9, R64, R65, R221) and of the status flags (R42, R43,
R153). Settles O17, O37, O47, O48, O53, O54, O55.
-/

namespace Sys2Proof.Machine

/-! ### The frames of the state's updates -/

section
variable {parts parts' : List Part} {s t u : State}

theorem sameOutside.setRegs (h : sameOutside parts s t) (hmem : Part.regs ∈ parts) (r : RegFile) :
    sameOutside parts s (t.setRegs r) := by
  simpa [sameOutside, hmem] using h

theorem sameOutside.setCounters (h : sameOutside parts s t) (hmem : Part.counters ∈ parts) (c : Counters) :
    sameOutside parts s (t.setCounters c) := by
  simpa [sameOutside, hmem] using h

theorem sameOutside.setSprites (h : sameOutside parts s t) (hmem : Part.sprites ∈ parts) (line : Option Nat)
    (l : List SpriteEntry) : sameOutside parts s (t.setSprites line l) := by
  simpa [sameOutside, hmem] using h

theorem sameOutside.writeVram (h : sameOutside parts s t) (hmem : Part.vram ∈ parts) (a : VramAddr) (v : Byte) :
    sameOutside parts s (t.writeVram a v) := by
  simpa [sameOutside, hmem] using h

theorem sameOutside.writeCram (h : sameOutside parts s t) (hmem : Part.cram ∈ parts) (i : Nat) (v : Byte) :
    sameOutside parts s (t.writeCram i v) := by
  simpa [sameOutside, hmem] using h

theorem sameOutside.emit (h : sameOutside parts s t) (hmem : Part.spriteOut ∈ parts) (x : Pixel) :
    sameOutside parts s (t.emit x) := by
  simpa [sameOutside, hmem] using h

/-- Two updates inside a frame stay inside it in turn. -/
theorem sameOutside.trans (h : sameOutside parts s t) (k : sameOutside parts t u) : sameOutside parts s u := by
  obtain ⟨h₁, h₂, h₃, h₄, h₅, h₆, h₇, h₈, h₉, h₁₀, h₁₁⟩ := h
  obtain ⟨k₁, k₂, k₃, k₄, k₅, k₆, k₇, k₈, k₉, k₁₀, k₁₁⟩ := k
  exact ⟨k₁.trans h₁, k₂.trans h₂, fun n => (k₃ n).trans (h₃ n), fun n => (k₄ n).trans (h₄ n),
    fun n => (k₅ n).trans (h₅ n), fun n => (k₆ n).trans (h₆ n),
    fun n => ⟨(k₇ n).1.trans (h₇ n).1, (k₇ n).2.trans (h₇ n).2⟩, fun n a => (k₈ n a).trans (h₈ n a),
    fun n i => (k₉ n i).trans (h₉ n i), fun n => (k₁₀ n).trans (h₁₀ n), fun n => (k₁₁ n).trans (h₁₁ n)⟩

/-- A frame may be widened. -/
theorem sameOutside.mono (h : sameOutside parts s t) (hsub : parts ⊆ parts') : sameOutside parts' s t := by
  obtain ⟨h₁, h₂, h₃, h₄, h₅, h₆, h₇, h₈, h₉, h₁₀, h₁₁⟩ := h
  exact ⟨h₁, h₂, fun n => h₃ (mt (@hsub _) n), fun n => h₄ (mt (@hsub _) n), fun n => h₅ (mt (@hsub _) n),
    fun n => h₆ (mt (@hsub _) n), fun n => h₇ (mt (@hsub _) n), fun n => h₈ (mt (@hsub _) n),
    fun n => h₉ (mt (@hsub _) n), fun n => h₁₀ (mt (@hsub _) n), fun n => h₁₁ (mt (@hsub _) n)⟩

/-- Every frame keeps the configuration. -/
theorem sameOutside.cfg (h : sameOutside parts s t) : t.cfg = s.cfg := h.1

theorem sameOutside.regs (h : sameOutside parts s t) (hp : Part.regs ∉ parts) : t.regs = s.regs := by
  obtain ⟨-, -, hr, -⟩ := h
  exact hr hp

theorem sameOutside.flags (h : sameOutside parts s t) (hp : Part.flags ∉ parts) : t.flags = s.flags := by
  obtain ⟨-, -, -, -, hf, -⟩ := h
  exact hf hp

theorem sameOutside.counters (h : sameOutside parts s t) (hp : Part.counters ∉ parts) :
    t.counters = s.counters := by
  obtain ⟨-, -, -, -, -, hc, -⟩ := h
  exact hc hp

theorem sameOutside.sprites (h : sameOutside parts s t) (hp : Part.sprites ∉ parts) :
    t.sprites = s.sprites ∧ t.evalLine = s.evalLine := by
  obtain ⟨-, -, -, -, -, -, hs, -⟩ := h
  exact hs hp

theorem sameOutside.vram (h : sameOutside parts s t) (hp : Part.vram ∉ parts) (a : VramAddr) :
    vramRead t a = vramRead s a := by
  obtain ⟨-, -, -, -, -, -, -, hv, -⟩ := h
  exact hv hp a

theorem sameOutside.cram (h : sameOutside parts s t) (hp : Part.cram ∉ parts) (i : Nat) :
    cramRead t i = cramRead s i := by
  obtain ⟨-, -, -, -, -, -, -, -, hc, -⟩ := h
  exact hc hp i

end

/-! ### The frames of the operations -/

section
variable (s : State)

/-- A data write with code 0, 1 or 2 touches the port and VRAM only (R102). -/
theorem writeData_vram_frame (d : Byte) (h : s.port.code.toNat ≤ 2) :
    sameOutside [.port, .vram] s (writeData d s) := by
  rw [writeData, storeData_vram s d h]
  exact ((sameOutside_refl _ s).writeVram (by decide) _ _).setPort (by decide) _

/-- A data write with code 3 touches the port and CRAM only (R102). -/
theorem writeData_cram_frame (d : Byte) (h : ¬ s.port.code.toNat ≤ 2) :
    sameOutside [.port, .cram] s (writeData d s) := by
  rw [writeData, storeData_cram s d h]
  exact ((sameOutside_refl _ s).writeCram (by decide) _ _).setPort (by decide) _

/-- A data write touches the port and the memories only (R102). -/
theorem writeData_frame (d : Byte) : sameOutside [.port, .vram, .cram] s (writeData d s) := by
  by_cases h : s.port.code.toNat ≤ 2
  · exact (writeData_vram_frame s d h).mono (by decide)
  · exact (writeData_cram_frame s d h).mono (by decide)

/-- A command word touches the registers and the port only (R104 to R107). -/
theorem controlPair_frame (cw : BitVec 16) : sameOutside [.regs, .port] s (controlPair cw s) :=
  (writeControl_frame s _).trans (writeControl_frame _ _)

/-- A tick touches the counters and the flags only (R140). -/
theorem tick_frame : sameOutside [.counters, .flags] s (tick s) := by
  by_cases h : s.counters.hPixel = 0
  · rw [tick_line_start s h]
    exact (((sameOutside_refl _ s).setCounters (by decide) _).setFlags (by decide) _).setCounters (by decide) _
  · rw [tick_within_line s h]
    exact (sameOutside_refl _ s).setCounters (by decide) _

/-- An evaluation touches the working set and the flags only (R170). -/
theorem evaluate_frame (line : Nat) : sameOutside [.sprites, .flags] s (evaluate line s) :=
  ((sameOutside_refl _ s).setSprites (by decide) _ _).setFlags (by decide) _

/-- A compositing step touches the flags and the pixel output only (R190). -/
theorem composite_frame (h : Byte) (line : Nat) : sameOutside [.flags, .spriteOut] s (composite h line s) :=
  ((sameOutside_refl _ s).setFlags (by decide) _).emit (by decide) _

/-- Reset keeps the memories and the outputs (R240). -/
theorem resetStep_frame : sameOutside [.regs, .port, .flags, .counters, .sprites] s (resetStep s) :=
  (((((sameOutside_refl _ s).setRegs (by decide) _).setPort (by decide) _).setFlags (by decide) _).setCounters
    (by decide) _).setSprites (by decide) _ _

end

/-- The parts of the state that an operation may change. -/
def touches : Instr → List Part
  | .rd => [.port, .returned]
  | .rs => [.port, .flags, .returned]
  | .wd _ => [.port, .vram, .cram]
  | .rv | .rh => [.returned]
  | .lh => [.counters]
  | .tick => [.counters, .flags]
  | .eval _ => [.sprites, .flags]
  | .comp _ _ => [.flags, .spriteOut]
  | .reset => [.regs, .port, .flags, .counters, .sprites]
  | _ => [.regs, .port]

/-- A command or register word is that of a control-port operation. -/
theorem touches_command {i : Instr} {cw : BitVec 16} (h : encode i = .control cw ∨ encode i = .register cw) :
    touches i = [.regs, .port] := by
  cases i with
  | rd | rs | wd _ | rv | rh | lh | tick | eval _ | comp _ _ | reset => simp [encode, hostWord, videoWord] at h
  | _ => rfl

/-- A completed operation changes nothing but what it touches. -/
theorem exec_frame {i : Instr} {s t : State} (h : exec i s = .next t) : sameOutside (touches i) s t := by
  cases exec_cases h with
  | readData hi ht => subst hi ht; exact readData_frame s
  | readStatus hi ht => subst hi ht; exact readStatus_frame s
  | writeData d hi ht => subst hi ht; exact writeData_frame s d
  | control d hi ht => subst ht; obtain rfl | rfl := hi <;> exact writeControl_frame s d
  | command cw hi ht => rw [touches_command hi]; subst ht; exact controlPair_frame s cw
  | counterRead v hi ht =>
    subst ht
    obtain ⟨rfl, -⟩ | ⟨rfl, -⟩ := hi <;> exact (sameOutside_refl _ s).returnByte (by decide) v
  | latch hi ht => subst hi ht; exact (sameOutside_refl _ s).setCounters (by decide) _
  | tick hi ht => subst hi ht; exact tick_frame s
  | evaluate line hi _ _ ht => subst hi ht; exact evaluate_frame s line
  | composite x line hi _ _ ht => subst hi ht; exact composite_frame s x line
  | reset hi ht => subst hi ht; exact resetStep_frame s

/-! ### The low control byte -/

section
variable (s : State)

/-- A low control byte goes into the address or into `ctrlLow`, and starts phase 1 (R103). -/
theorem writeControl_low_eq (d : Byte) (h : s.port.ctrlPhase = false) :
    writeControl d s = s.setPort
      { s.port with
        ctrlPhase := true
        address := if s.cfg.ctrlLowImmediate then withLowByte s.port.address d else s.port.address
        ctrlLow := if s.cfg.ctrlLowImmediate then s.port.ctrlLow else d } := by
  cases hi : s.cfg.ctrlLowImmediate <;> simp [writeControl, controlLow, h, hi]

theorem writeControl_low_regs (d : Byte) (h : s.port.ctrlPhase = false) : (writeControl d s).regs = s.regs := by
  rw [writeControl_low_eq s d h, State.setPort_regs]

theorem writeControl_low_code (d : Byte) (h : s.port.ctrlPhase = false) :
    (writeControl d s).port.code = s.port.code := by
  rw [writeControl_low_eq s d h, State.setPort_port]

end

/-! ### Which operations touch a part -/

theorem counters_mem_touches {i : Instr} (h : Part.counters ∈ touches i) : i = .tick ∨ i = .lh ∨ i = .reset := by
  cases i <;> simp_all [touches]

theorem sprites_mem_touches {i : Instr} (h : Part.sprites ∈ touches i) : (∃ l, i = .eval l) ∨ i = .reset := by
  cases i <;> simp_all [touches]

theorem memory_mem_touches {i : Instr} (h : Part.vram ∈ touches i ∨ Part.cram ∈ touches i) : ∃ d, i = .wd d := by
  cases i <;> simp_all [touches]

theorem flags_mem_touches {i : Instr} (h : Part.flags ∈ touches i) :
    i = .rs ∨ i = .tick ∨ (∃ l, i = .eval l) ∨ (∃ x l, i = .comp x l) ∨ i = .reset := by
  cases i <;> simp_all [touches]

theorem regs_mem_touches {i : Instr} (h : Part.regs ∈ touches i) :
    i = .reset ∨ (∃ d, i = .wcLo d ∨ i = .wcHi d) ∨ ∃ cw, encode i = .control cw ∨ encode i = .register cw := by
  cases i <;> simp_all [touches, encode]

/-! ### Completion -/

/-- Every operation outside the two sprite stages completes. -/
theorem exec_completes {i : Instr} (h : i.isSpriteStage = false) (s : State) : ∃ t, exec i s = .next t := by
  cases i with
  | eval _ | comp _ _ => cases h
  | _ => exact ⟨_, rfl⟩

/-- A command or register word's operation is the pair of its control writes (R96). -/
theorem exec_command {i : Instr} {cw : BitVec 16} (h : encode i = .control cw ∨ encode i = .register cw) (s : State) :
    exec i s = .next (controlPair cw s) := by
  cases i with
  | rd | rs | wd _ | wcLo _ | wcHi _ | rv | rh | lh | tick | eval _ | comp _ _ | reset =>
    simp [encode, hostWord, videoWord] at h
  | vread _ | vwrite _ | setreg _ _ _ | cwrite _ =>
    obtain h | h := h
    · cases h
      rfl
    · cases h
  | _ =>
    obtain h | h := h
    · cases h
    · cases h
      rfl

/-- The sprite stages are `EVAL` and `COMP`. -/
theorem isSpriteStage_eq_false {i : Instr} (heval : ∀ l, i ≠ .eval l) (hcomp : ∀ x l, i ≠ .comp x l) :
    i.isSpriteStage = false := by
  cases i with
  | eval l => exact absurd rfl (heval l)
  | comp x l => exact absurd rfl (hcomp x l)
  | _ => rfl

/-- Settles O17: each of these operations is a total update of the state. -/
theorem operationsOutsideTheSpriteStagesComplete : Obligations.OperationsOutsideTheSpriteStagesComplete :=
  fun _ s heval hcomp => exec_completes (isSpriteStage_eq_false heval hcomp) s

/-! ### Whole-machine rules -/

/-- Settles O53: the operation a step performs keeps the configuration, and so does an idle step. -/
theorem configurationNeverChanges : Obligations.ConfigurationNeverChanges := by
  intro s t h
  obtain ⟨-, rfl⟩ | ⟨w, rest, i, -, -, hexec⟩ := step_cases h
  · rfl
  · exact (exec_frame hexec).cfg

/-- Settles O37: outside reset only a tick and the H latch touch the counters; the latch keeps the three raw
counters, and a tick keeps the latch. -/
theorem countersMoveOnlyByTheTimeline : Obligations.CountersMoveOnlyByTheTimeline := by
  intro i s t h
  by_cases hc : Part.counters ∈ touches i
  · obtain rfl | rfl | rfl := counters_mem_touches hc
    · obtain ⟨-, -, -, -, -, -, -, -, -, -, hlatch⟩ := tick_fields s
      cases h
      exact ⟨fun hi => absurd rfl hi, fun _ _ => hlatch⟩
    · cases h
      exact ⟨fun _ _ => ⟨rfl, rfl, rfl⟩, fun hi => absurd rfl hi⟩
    · exact ⟨fun _ hi => absurd rfl hi, fun _ hi => absurd rfl hi⟩
  · have heq := (exec_frame h).counters hc
    exact ⟨fun _ _ => by simp [heq], fun _ _ => by rw [heq]⟩

/-- Settles O54: only a data write touches a memory, and its code says which. -/
theorem memoriesAreWrittenOnlyByWriteData : Obligations.MemoriesAreWrittenOnlyByWriteData := by
  intro i s t h
  refine ⟨fun ⟨a, ha⟩ => ?_, fun ⟨j, hj⟩ => ?_⟩
  · obtain ⟨d, rfl⟩ := memory_mem_touches (.inl (by_contra fun hn => ha ((exec_frame h).vram hn a)))
    refine ⟨⟨d, rfl⟩, by_contra fun hcode => ha ?_⟩
    cases h
    exact (writeData_cram_frame s d hcode).vram (by decide) a
  · obtain ⟨d, rfl⟩ := memory_mem_touches (.inr (by_contra fun hn => hj ((exec_frame h).cram hn j)))
    refine ⟨⟨d, rfl⟩, by_contra fun hcode => hj ?_⟩
    have hle : s.port.code.toNat ≤ 2 := by
      have hne : s.port.code.toNat ≠ 3 := fun e => hcode (BitVec.eq_of_toNat_eq e)
      omega
    cases h
    exact (writeData_vram_frame s d hle).cram (by decide) j

/-- Only a high control byte of code 2 changes the register file (R104, R107). -/
theorem writeControl_regs_changed {s : State} {d : Byte} (h : (writeControl d s).regs ≠ s.regs) :
    s.port.ctrlPhase = true ∧ (writeControl d s).port.code = 2#2 := by
  cases hp : s.port.ctrlPhase with
  | false => exact absurd (writeControl_low_regs s d hp) h
  | true =>
    rw [writeControl_high_regs s d hp] at h
    rw [writeControl_high_code s d hp]
    exact ⟨rfl, by_contra fun hcode => h (if_neg hcode)⟩

/-- A command word that changes the register file leaves code 2: the byte that wrote the register is its second
byte, or its first and then the second is a new low byte (R107). -/
theorem controlPair_regs_changed {s : State} {cw : BitVec 16} (h : (controlPair cw s).regs ≠ s.regs) :
    (controlPair cw s).port.code = 2#2 := by
  by_cases hfirst : (writeControl (firstByte cw) s).regs = s.regs
  · exact (writeControl_regs_changed (d := secondByte cw) (s := writeControl (firstByte cw) s)
      (fun e => h (e.trans hfirst))).2
  · obtain ⟨hphase, hcode⟩ := writeControl_regs_changed hfirst
    exact (writeControl_low_code _ (secondByte cw) (by simp [hphase])).trans hcode

/-- Settles O55: outside reset the registers are touched by control writes alone, and one that changes them leaves
code 2. -/
theorem registerFileIsReachedOnlyThroughTheControlPort :
    Obligations.RegisterFileIsReachedOnlyThroughTheControlPort := by
  intro i s t hreset h hne
  obtain rfl | ⟨d, rfl | rfl⟩ | ⟨cw, hcw⟩ :=
    regs_mem_touches (by_contra fun hn => hne ((exec_frame h).regs hn))
  · exact absurd rfl hreset
  · cases h
    exact ⟨.inl ⟨d, rfl⟩, (writeControl_regs_changed hne).2⟩
  · cases h
    exact ⟨.inr (.inl ⟨d, rfl⟩), (writeControl_regs_changed hne).2⟩
  · cases (exec_command hcw s).symm.trans h
    exact ⟨.inr (.inr ⟨cw, hcw⟩), controlPair_regs_changed hne⟩

/-! ### Status flags -/

/-- What a completed operation does to the flags: nothing, or what its own stage does. -/
theorem exec_flags_cases {i : Instr} {s t : State} (h : exec i s = .next t) :
    ((∀ l, i ≠ .eval l) ∧ t.flags = s.flags) ∨ (i = .rs ∧ t.flags = clearedFlags) ∨ (i = .tick ∧ t = tick s)
      ∨ (∃ l, i = .eval l ∧ t = evaluate l s) ∨ (∃ x l, i = .comp x l ∧ t = composite x l s) ∨ i = .reset := by
  by_cases hf : Part.flags ∈ touches i
  · obtain rfl | rfl | ⟨l, rfl⟩ | ⟨x, l, rfl⟩ | rfl := flags_mem_touches hf
    · exact .inr (.inl ⟨rfl, by cases h; rfl⟩)
    · exact .inr (.inr (.inl ⟨rfl, by cases h; rfl⟩))
    · obtain ⟨-, -, ht⟩ := execEval_next s h
      exact .inr (.inr (.inr (.inl ⟨l, rfl, ht⟩)))
    · obtain ⟨-, -, ht⟩ := execComp_next s h
      exact .inr (.inr (.inr (.inr (.inl ⟨x, l, rfl, ht⟩))))
    · exact .inr (.inr (.inr (.inr (.inr rfl))))
  · refine .inl ⟨?_, (exec_frame h).flags hf⟩
    rintro l rfl
    exact hf (by simp [touches])

/-- Settles O47: besides `RS` and reset the flags are touched by a tick, which only sets pending flags, and by the
sprite stages, which keep them. -/
theorem pendingFlagsAreClearedOnlyByStatusReadOrReset : Obligations.PendingFlagsAreClearedOnlyByStatusReadOrReset := by
  intro i s t hrs hreset h
  obtain ⟨-, hsame⟩ | ⟨hi, -⟩ | ⟨-, rfl⟩ | ⟨l, -, rfl⟩ | ⟨x, l, -, rfl⟩ | hi := exec_flags_cases h
  · rw [hsame]
    exact ⟨id, id⟩
  · exact absurd hi hrs
  · obtain ⟨hframe, hline, -⟩ := tick_flags s
    exact ⟨hframe, hline⟩
  · obtain ⟨-, -, -, -, -, -, -, -, -, hframe, hline⟩ := evaluate_fields s l
    exact ⟨hframe.trans, hline.trans⟩
  · obtain ⟨-, -, -, -, -, -, -, -, -, -, hframe, hline, -⟩ := composite_fields s x l
    exact ⟨hframe.trans, hline.trans⟩
  · exact absurd hi hreset

/-- Settles O48: `exec_flags_cases`, with the flags that each stage keeps. -/
theorem statusFlagsAreSetOnlyByTheirStage : Obligations.StatusFlagsAreSetOnlyByTheirStage := by
  intro i s t hreset h
  obtain ⟨heval, hsame⟩ | ⟨rfl, hcleared⟩ | ⟨rfl, rfl⟩ | ⟨l, rfl, rfl⟩ | ⟨x, l, rfl, rfl⟩ | hi := exec_flags_cases h
  · rw [hsame]
    exact ⟨fun _ _ => ⟨rfl, rfl⟩, fun _ => id, fun _ => id, fun _ => id, fun _ => id,
      fun ⟨l, hl⟩ => absurd hl (heval l)⟩
  · rw [hcleared]
    simp [clearedFlags]
  · obtain ⟨-, -, hoverflow, hcollision, hfifth⟩ := tick_flags s
    simp [hoverflow, hcollision, hfifth]
  · obtain ⟨-, -, -, -, -, -, -, -, -, hframe, hline⟩ := evaluate_fields s l
    have hcollision : (evaluate l s).flags.spriteCollision = false := rfl
    simp [hframe, hline, hcollision]
  · obtain ⟨-, -, -, -, -, -, -, -, -, -, hframe, hline, hoverflow, hfifth⟩ := composite_fields s x l
    simp [hframe, hline, hoverflow, hfifth]
  · exact absurd hi hreset

end Sys2Proof.Machine
end

section
/-!
PROOFS. The invariant of the machine (spec/20_memory.md R60, R62; spec/41_counters.md R141; spec/10_state.md R47):
the machine after reset meets it and every step keeps it. Settles O57, O58.
-/

namespace Sys2Proof.Machine

/-! ### The ranges of the counters -/

/-- `V_PERIOD` of a legal configuration is positive, so a line number modulo it is below it (R141). -/
theorem ConfigOk.vPeriod_pos {c : Config} (h : ConfigOk c) : 0 < vPeriod c := by
  have hntsc := h.vPeriodNtsc_ge
  have hpal := h.vPeriodPal_ge
  unfold vPeriod
  split <;> omega

/-- The advance keeps the raw counters in their ranges (R140, R141). -/
theorem advanceRaw_ranges {c : Config} (hc : ConfigOk c) {n : Counters} (hpixel : n.hPixel.toNat < c.hPeriod)
    (hline : n.vLine < vPeriod c) :
    (advanceRaw c n).hPixel.toNat < c.hPeriod ∧ (advanceRaw c n).vLine < vPeriod c := by
  obtain ⟨hh, hv⟩ := advanceRaw_raw c n hpixel hc.hPeriod_le
  have hpos := hc.hPeriod_pos
  rw [hh, hv]
  split
  · exact ⟨hpos, Nat.mod_lt _ hc.vPeriod_pos⟩
  · exact ⟨by omega, hline⟩

/-- The advance of the raw counters depends on the raw counters only (R140). -/
theorem advanceRaw_congr (c : Config) {n m : Counters} (hpixel : m.hPixel = n.hPixel) (hline : m.vLine = n.vLine) :
    (advanceRaw c m).hPixel = (advanceRaw c n).hPixel ∧ (advanceRaw c m).vLine = (advanceRaw c n).vLine := by
  unfold advanceRaw
  rw [hpixel, hline]
  split <;> exact ⟨rfl, rfl⟩

/-- A tick advances the raw counters from where they were, line start or not (R140). -/
theorem tick_raw_counters (s : State) :
    (tick s).counters.hPixel = (advanceRaw s.cfg s.counters).hPixel
      ∧ (tick s).counters.vLine = (advanceRaw s.cfg s.counters).vLine := by
  by_cases h : s.counters.hPixel = 0
  · rw [tick_line_start s h]
    exact advanceRaw_congr s.cfg rfl rfl
  · rw [tick_within_line s h]
    exact ⟨rfl, rfl⟩

/-! ### Each shape of operation keeps the invariant -/

variable {s t : State}

/-- The invariant speaks of the configuration, the memories, the raw counters and the working set only. -/
theorem State.Inv.congr (h : s.Inv) (hcfg : t.cfg = s.cfg) (hvram : t.vram = s.vram) (hcram : t.cram = s.cram)
    (hpixel : t.counters.hPixel = s.counters.hPixel) (hline : t.counters.vLine = s.counters.vLine)
    (hsprites : t.sprites = s.sprites) (heval : t.evalLine = s.evalLine) : t.Inv := by
  obtain ⟨h₁, h₂, h₃, h₄, h₅, h₆, h₇, h₈, h₉, h₁₀⟩ := h
  constructor <;> simpa only [hcfg, hvram, hcram, hpixel, hline, hsprites, heval]

theorem State.Inv.setPending (h : s.Inv) (q : List OpWord) : (s.setPending q).Inv :=
  h.congr rfl rfl rfl rfl rfl rfl rfl

theorem State.Inv.controlPair (h : s.Inv) (cw : BitVec 16) : (controlPair cw s).Inv := by
  obtain ⟨hcfg, -, hcounters, hsprites, heval, hvram, hcram, -⟩ := controlPair_fields s cw
  exact h.congr hcfg hvram hcram (by rw [hcounters]) (by rw [hcounters]) hsprites heval

theorem State.Inv.writeControl (h : s.Inv) (d : Byte) : (writeControl d s).Inv := by
  obtain ⟨hcfg, -, hcounters, hsprites, heval, hvram, hcram, -⟩ := writeControl_fields s d
  exact h.congr hcfg hvram hcram (by rw [hcounters]) (by rw [hcounters]) hsprites heval

theorem cramEntries_pos (c : CramSize) : 0 < cramEntries c := by cases c <;> decide

/-- A store stays in its space: VRAM addresses have 14 bits, and a CRAM index is reduced modulo the entries (R60,
R62). -/
theorem State.Inv.writeData (h : s.Inv) (d : Byte) : (writeData d s).Inv := by
  by_cases hcode : s.port.code.toNat ≤ 2
  · rw [Machine.writeData, storeData_vram s d hcode]
    exact { h with
      vram_wf := writeCell_wf h.vram_wf _ d
      vram_within := writeCell_within h.vram_within s.port.address.isLt d }
  · rw [Machine.writeData, storeData_cram s d hcode]
    exact { h with
      cram_wf := writeCell_wf h.cram_wf _ d
      cram_within := writeCell_within h.cram_within (Nat.mod_lt _ (cramEntries_pos _)) d }

/-- A tick keeps the raw counters in their ranges (R140, R141). -/
theorem State.Inv.tick (h : s.Inv) : (tick s).Inv := by
  obtain ⟨hcfg, -, -, hsprites, heval, hvram, hcram, -⟩ := tick_fields s
  obtain ⟨hpixel, hline⟩ := tick_raw_counters s
  obtain ⟨hpixel_lt, hline_lt⟩ := advanceRaw_ranges h.cfg_ok h.hPixel_lt h.vLine_lt
  have hraw : ({ s with counters := advanceRaw s.cfg s.counters } : State).Inv :=
    { h with hPixel_lt := hpixel_lt, vLine_lt := hline_lt }
  exact hraw.congr hcfg hvram hcram hpixel hline hsprites heval

/-- An evaluation selects at most four entries, each at or above its line, which is a byte (R174, R176, R179). -/
theorem State.Inv.evaluate (h : s.Inv) {line : Nat} (hline : line ≤ 255) : (evaluate line s).Inv := by
  obtain ⟨hle, hselected⟩ := walkSlots_selected s line satSlots 0
  exact { h with
    sprites_le := hle
    evalLine_le := fun l hl => Option.some.inj hl ▸ hline
    sprites_above := fun e he => by
      obtain ⟨j, hvisible, rfl⟩ := hselected e he
      exact ⟨line, rfl, slotVisible_le s hvisible⟩ }

/-- Reset keeps the memories and sets the counters to values that a legal configuration keeps in range (R240). -/
theorem State.Inv.resetStep (h : s.Inv) : (resetStep s).Inv :=
  { h with
    hPixel_lt := h.cfg_ok.reset_hPixel_lt
    vLine_lt := h.cfg_ok.reset_vLine_lt
    sprites_le := Nat.zero_le 4
    evalLine_le := nofun
    sprites_above := nofun }

/-- Every completed operation keeps the invariant. -/
theorem State.Inv.exec {i : Instr} (h : s.Inv) (he : exec i s = .next t) : t.Inv := by
  cases exec_cases he with
  | readData _ ht | readStatus _ ht | counterRead _ _ ht | latch _ ht | composite _ _ _ _ _ ht =>
    subst ht
    exact h.congr rfl rfl rfl rfl rfl rfl rfl
  | writeData d _ ht => exact ht ▸ h.writeData d
  | control d _ ht => exact ht ▸ h.writeControl d
  | command cw _ ht => exact ht ▸ h.controlPair cw
  | tick _ ht => exact ht ▸ h.tick
  | evaluate line _ hline _ ht => exact ht ▸ h.evaluate hline
  | reset _ ht => exact ht ▸ h.resetStep

/-- Settles O58: an idle step changes nothing, and every other performs an operation. -/
theorem stepKeepsTheInvariant : Obligations.StepKeepsTheInvariant := by
  intro s t h hstep
  obtain ⟨-, rfl⟩ | ⟨w, rest, i, -, -, hexec⟩ := step_cases hstep
  · exact h
  · exact (h.setPending rest).exec hexec

/-- The free `H_PERIOD` of the machine after reset is in its range (R141; log 6). -/
theorem openHPeriod_range : 1 ≤ openHPeriod ∧ openHPeriod ≤ 65536 :=
  ⟨Nat.succ_pos _, Config.openHPeriodLessOne.isLt⟩

/-- Settles O57: the memories and the working set are empty and the counters 0, and the parameters but `H_PERIOD` are
literals. -/
theorem resetStateMeetsTheInvariant : Obligations.ResetStateMeetsTheInvariant := by
  obtain ⟨hpos, hle⟩ := openHPeriod_range
  have hcfg : ConfigOk State.reset.cfg := ⟨hpos, hle, by decide, by decide, hpos, by decide⟩
  exact ⟨hcfg, .nil, nofun, .nil, nofun, hpos, by decide, Nat.zero_le 4, nofun, nofun⟩

end Sys2Proof.Machine
end

section
/-!
PROOFS. Steps and words (spec/20_memory.md R74, spec/30_encoding.md R93, R96), and the two host ports' operations as
programs use them (spec/40_register_protocol.md R100 to R106). Settles O1, O2, O6, O9, O10, O12, O13, O14, O15, O18,
O19, O20.
-/

namespace Sys2Proof.Machine

variable (s : State)

/-! ### Steps -/

theorem step_of_decode_ok {s : State} {w : OpWord} {rest : List OpWord} {i : Instr} (hp : s.pending = w :: rest)
    (hd : decode s.port.ctrlPhase w = .ok i) : step s = exec i (s.setPending rest) := by
  simp [step, fetchOp, hp, hd]

theorem step_of_decode_error {s : State} {w : OpWord} {rest : List OpWord} {why : DecodeError}
    (hp : s.pending = w :: rest) (hd : decode s.port.ctrlPhase w = .error why) :
    step s = .refused (.rejectedWord why) := by
  simp [step, fetchOp, hp, hd]

theorem step_of_pending_nil {s : State} (hp : s.pending = []) : step s = .next s := by
  simp [step, fetchOp, hp, idle]

/-- Settles O1: one equation of `step` for each answer of the decoder, and one for the empty queue. -/
theorem stepPerformsTheDecodedOperation : Obligations.StepPerformsTheDecodedOperation :=
  ⟨fun _ _ _ _ => step_of_decode_ok, fun _ _ _ _ => step_of_decode_error, fun _ => step_of_pending_nil⟩

/-- A table word stands for the operation that its issued word decodes to in phase 0. -/
theorem decode_of_decodeTableWord {nbits w : Nat} {i : Instr} (h : decodeTableWord nbits w = some i) :
    decode false (tableWord nbits w) = .ok i := by
  unfold decodeTableWord at h
  split at h
  · rename_i hj
    rwa [Option.some.inj h] at hj
  · cases h

/-- Settles O2: the placed word is fetched first, which leaves the state it was placed in. -/
theorem tableWordIsPerformedNext : Obligations.TableWordIsPerformedNext := by
  intro s nbits w i hphase h
  have hdecode : decode (s.withFetchWord nbits w).port.ctrlPhase (tableWord nbits w) = .ok i := by
    rw [← decode_of_decodeTableWord h, ← hphase]
    rfl
  rw [step_of_decode_ok rfl hdecode]
  exact congrArg (exec i) (s.setPending_pending_self _)

/-! ### Which words are refused -/

/-- A write to an index that is no register changes nothing (R122). -/
theorem registerWrite_missing {c : Config} {r : BitVec 4}
    (h : 11 ≤ r.toNat ∨ (r = 10#4 ∧ c.regAIsLineCounter = false)) (v : Byte) (f : RegFile) :
    registerWrite c r v f = f := by
  obtain h | ⟨rfl, hc⟩ := h
  · unfold registerWrite
    split
    case h_12 => rfl
    all_goals omega
  · simp [registerWrite, writeRegA, hc]

/-- Settles O6: the decoder's case lemmas, and completion outside the sprite stages, which only video words reach. -/
theorem onlyTheUnusedSelectorIsRefused : Obligations.OnlyTheUnusedSelectorIsRefused := by
  refine ⟨fun ph w => ?_, fun _ _ => ⟨_, rfl⟩, fun _ _ => ⟨_, rfl⟩, fun ph w i s h => ?_, fun ph w i s h => ?_,
    fun c r v f h => registerWrite_missing h v f⟩
  · obtain ⟨hsel, herr⟩ | ⟨hsel, i, hi, -⟩ := decodeHost_cases ph w
    · exact ⟨fun ⟨_, hj⟩ => (nomatch herr.symm.trans hj), fun hne => absurd hsel hne⟩
    · exact ⟨fun _ => hsel, fun _ => ⟨i, hi⟩⟩
  · obtain ⟨-, herr⟩ | ⟨-, j, hj, -, -, hport⟩ := decodeHost_cases ph w
    · cases herr.symm.trans h
    · cases hj.symm.trans h
      exact exec_completes hport s
  · obtain h | h := h
    · cases h
      obtain ⟨-, -, hport⟩ := decodeControl_isPortOperation ph w
      exact exec_completes hport s
    · cases h
      obtain ⟨-, -, hport⟩ := decodeRegister_isPortOperation ph w
      exact exec_completes hport s

/-! ### Control writes and command words -/

/-- Settles O12: both rows are one update, which toggles the phase. -/
theorem controlWriteHalfDependsOnPhase : Obligations.ControlWriteHalfDependsOnPhase :=
  fun s d => ⟨rfl, writeControl d s, rfl, writeControl_ctrlPhase s d⟩

/-- A low control byte touches the port only (R103). -/
theorem writeControl_low_frame (d : Byte) (h : s.port.ctrlPhase = false) :
    sameOutside [.port] s (writeControl d s) := by
  rw [writeControl_low_eq s d h]
  exact (sameOutside_refl _ s).setPort (by decide) _

/-- Settles O10: the fields of the port that `writeControl_low_eq` leaves. -/
theorem lowControlByteIsTakenFirst : Obligations.LowControlByteIsTakenFirst := by
  intro s d h
  refine ⟨writeControl d s, rfl, by simp [h], ?_, ?_, writeControl_low_code s d h, ?_, writeControl_low_frame s d h⟩ <;>
    rw [writeControl_low_eq s d h, State.setPort_port]
  rw [apply_ite BitVec.toNat, withLowByte_toNat]

/-- Settles O13: `exec_command`, with the pair written out. -/
theorem commandWordIsItsTwoControlWrites : Obligations.CommandWordIsItsTwoControlWrites :=
  fun _ _ s h => ⟨_, _, rfl, rfl, exec_command h s⟩

/-- The code of a word's first byte is bits 7 and 6 of the word. -/
theorem accessCode_firstByte (cw : BitVec 16) : accessCode (firstByte cw) = cw.extractLsb' 6 2 := by
  apply BitVec.eq_of_toNat_eq
  rw [accessCode_toNat, firstByte, toNat_extract, toNat_extract]
  omega

/-- Settles O15: in phase 1 the first byte is a high byte and the second a low byte. -/
theorem commandWordInPhaseOneIsTakenApart : Obligations.CommandWordInPhaseOneIsTakenApart := by
  intro i cw s hcw h
  have hmid : (writeControl (firstByte cw) s).port.ctrlPhase = false := by simp [h]
  obtain ⟨hcfg, -, -, -, -, -, -, -, -, -, hphase⟩ := controlPair_fields s cw
  refine ⟨controlPair cw s, exec_command hcw s, hphase.trans h, ?_, ?_⟩
  · rw [controlPair, writeControl_low_code _ _ hmid, writeControl_high_code s _ h, accessCode_firstByte]
  · rw [← hcfg]
    exact pendingLow_writeControl _ (secondByte cw) hmid

/-- The port after the command of a code and an address from phase 0 (R104 to R106). -/
theorem controlPair_controlWord_port (code : BitVec 2) (a : VramAddr) (h : s.port.ctrlPhase = false) :
    (controlPair (controlWord code a) s).port =
      { ctrlPhase := false
        address := if code = 0#2 then nextAddress a else a
        code := code
        readLatch := if code = 0#2 then vramRead s a else s.port.readLatch
        ctrlLow := if s.cfg.ctrlLowImmediate then s.port.ctrlLow else firstByte (controlWord code a) } := by
  rw [controlPair_phase_zero s _ h]
  obtain ⟨hcode, hact⟩ | ⟨hcode, hact⟩ | ⟨hcode, -, hact⟩ :=
      commandAction_cases (s.setPort (composedPort s.cfg (controlWord code a) s.port)) <;>
    simp_all [composedPort, controlWord_code, controlWord_address, BitVec.toNat_eq, refill, registerCommand]

/-- A command of another code than 2 touches the port only (R105, R106). -/
theorem controlPair_controlWord_frame (code : BitVec 2) (a : VramAddr) (h : s.port.ctrlPhase = false)
    (hcode : code ≠ 2#2) : sameOutside [.port] s (controlPair (controlWord code a) s) := by
  rw [controlPair_phase_zero s _ h]
  have hport := (sameOutside_refl [.port] s).setPort (by decide) (composedPort s.cfg (controlWord code a) s.port)
  obtain ⟨-, hact⟩ | ⟨htwo, -⟩ | ⟨-, -, hact⟩ :=
    commandAction_cases (s.setPort (composedPort s.cfg (controlWord code a) s.port))
  · rw [hact]
    exact hport.setPort (by decide) _
  · rw [State.setPort_port, composedPort, controlWord_code] at htwo
    exact absurd (BitVec.eq_of_toNat_eq htwo) hcode
  · rw [hact]
    exact hport

/-- The low byte of a command's word is that of its address (R83, R85). -/
theorem firstByte_controlWord_toNat (code : BitVec 2) (a : VramAddr) :
    (firstByte (controlWord code a)).toNat = a.toNat % 256 := by
  rw [firstByte, controlWord, extract_in_low _ _ (by decide), toNat_extract]
  simp

/-- Where a command of a code and an address holds its low byte (R103, D8). -/
theorem controlPair_controlWord_ctrlLow (code : BitVec 2) (a : VramAddr) (h : s.port.ctrlPhase = false) :
    (controlPair (controlWord code a) s).port.ctrlLow.toNat
      = if s.cfg.ctrlLowImmediate then s.port.ctrlLow.toNat else a.toNat % 256 := by
  rw [controlPair_controlWord_port s code a h, apply_ite BitVec.toNat, firstByte_controlWord_toNat]

/-- Settles O14: the port after each of the three commands, and its frame. -/
theorem setupCommandsFromPhaseZero : Obligations.SetupCommandsFromPhaseZero := by
  intro s a h
  have hport := fun code => controlPair_controlWord_port s code a h
  have hlow := fun code => controlPair_controlWord_ctrlLow s code a h
  have hframe := fun code => controlPair_controlWord_frame s code a h
  refine ⟨⟨_, rfl, ?_, ?_, ?_, ?_, hlow 0, hframe 0 (by decide)⟩,
    ⟨_, rfl, ?_, ?_, ?_, ?_, hlow 1, hframe 1 (by decide)⟩,
    ⟨_, rfl, ?_, ?_, ?_, ?_, hlow 3, hframe 3 (by decide)⟩⟩ <;> rw [hport]
  case refine_4 => exact nextAddress_toNat a
  all_goals rfl

/-! ### The data port -/

/-- A data write with code 0, 1 or 2 writes the VRAM byte at the address (R102). -/
theorem vramRead_writeData (d : Byte) (h : s.port.code.toNat ≤ 2) (a : VramAddr) :
    vramRead (writeData d s) a = if a = s.port.address then d else vramRead s a := by
  rw [writeData, storeData_vram s d h, vramRead_setPort, vramRead_writeVram]

/-- A data write with code 3 writes the CRAM entry at the reduced address (R92, R102). -/
theorem cramRead_writeData (d : Byte) (h : ¬ s.port.code.toNat ≤ 2) (j : Nat) :
    cramRead (writeData d s) j
      = if j = s.port.address.toNat % cramEntries s.cfg.cramSize then d else cramRead s j := by
  rw [writeData, storeData_cram s d h, cramRead_setPort, cramRead_writeCram]

/-- Settles O9: the store by its code, and the fields of `writeDataPort`. -/
theorem writeDataStoresThenIncrements : Obligations.WriteDataStoresThenIncrements := by
  intro s d
  refine ⟨writeData d s, rfl, fun h => ⟨vramRead_writeData s d h, writeData_vram_frame s d h⟩, fun h => ?_, rfl, rfl,
    nextAddress_toNat s.port.address, rfl, rfl⟩
  have hcode : ¬ s.port.code.toNat ≤ 2 := by rw [h]; decide
  exact ⟨cramRead_writeData s d hcode, writeData_cram_frame s d hcode⟩

/-- After `VREAD a` from phase 0, `RD` returns the byte that the latch was loaded with (R100, R105). -/
theorem readData_returned_after_vread (a : VramAddr) (h : s.port.ctrlPhase = false) :
    (readData (controlPair (controlWord 0 a) s)).returned = some (vramRead s a) := by
  show some (controlPair (controlWord 0 a) s).port.readLatch = _
  rw [controlPair_controlWord_port s 0 a h]
  rfl

/-- Settles O18: `VREAD a` loads the latch from `a` and leaves the address one past it, and `RD` returns the latch. -/
theorem readSetupThenReadReturnsTheByte : Obligations.ReadSetupThenReadReturnsTheByte := by
  intro s a h
  have haddr : (controlPair (controlWord 0 a) s).port.address = nextAddress a := by
    rw [controlPair_controlWord_port s 0 a h]
    rfl
  refine ⟨_, _, rfl, rfl, readData_returned_after_vread s a h, ?_⟩
  rw [readData_port, nextAddress_toNat, haddr, nextAddress_toNat]
  omega

/-- Settles O19: `WD` writes at the address that `VWRITE` left, in a phase and with a code that `VREAD` and `RD` then
read that byte back from. -/
theorem writtenByteIsReadBack : Obligations.WrittenByteIsReadBack := by
  intro s a d h
  let s₁ := controlPair (controlWord 1 a) s
  have hport : s₁.port = _ := controlPair_controlWord_port s 1 a h
  have hcode : s₁.port.code.toNat ≤ 2 := by rw [hport]; exact Nat.le_succ 1
  have haddr : a = s₁.port.address := by rw [hport]; rfl
  have hbyte : vramRead (writeData d s₁) a = d := by rw [vramRead_writeData s₁ d hcode, if_pos haddr]
  refine ⟨s₁, writeData d s₁, _, _, rfl, rfl, rfl, rfl, ?_⟩
  rw [readData_returned_after_vread _ a rfl, hbyte]

/-- A run whose first word is a data read performs it, then runs on. -/
theorem run_readData {k : Nat} {rest : List OpWord} (hp : s.pending = encode .rd :: rest) :
    core.run (k + 1) s = core.run k (readData (s.setPending rest)) := by
  have hstep : core.step s = .next (readData (s.setPending rest)) :=
    step_of_decode_ok hp (decode_encode s.port.ctrlPhase rfl rfl)
  simp only [Host.Core.run, hstep]

/-- Settles O20, by induction on the number of reads: each increments the address modulo 16384 and keeps VRAM. -/
theorem readStreamWrapsTheAddress : Obligations.ReadStreamWrapsTheAddress := by
  intro k
  induction k with
  | zero => exact fun s _ => ⟨s, rfl, (Nat.mod_eq_of_lt s.port.address.isLt).symm, fun _ => rfl⟩
  | succ k ih =>
    intro s hp
    let s₁ := readData (s.setPending (List.replicate k (encode .rd)))
    have haddr : s₁.port.address.toNat = (s.port.address.toNat + 1) % 16384 := nextAddress_toNat s.port.address
    obtain ⟨t, hrun, htaddr, hread⟩ := ih s₁ rfl
    refine ⟨t, (run_readData s hp).trans hrun, ?_, hread⟩
    rw [htaddr, haddr]
    omega

end Sys2Proof.Machine
end

section
/-!
PROOFS. The register file (spec/40_register_protocol.md R107, R111 to R122; spec/10_state.md R48; spec/60_exceptions.md
R213, R214): each register write as a command from phase 0. Settles O21 to O28, O49, O50.
-/

namespace Sys2Proof.Machine

variable (s : State)

/-! ### A register command -/

/-- A register command from phase 0 writes the register it names (R107). -/
theorem controlPair_register_regs (x : BitVec 2) (r : BitVec 4) (d : Byte) (h : s.port.ctrlPhase = false) :
    (controlPair (registerWord x r d) s).regs = registerWrite s.cfg r d s.regs := by
  rw [controlPair_register s x r d h, State.setRegs_regs]

/-- What a register command from phase 0 leaves of the port, and its frame (R104, R107). -/
theorem controlPair_register_done (x : BitVec 2) (r : BitVec 4) (d : Byte) (h : s.port.ctrlPhase = false) :
    registerCommandDone x r d s (controlPair (registerWord x r d) s) := by
  obtain ⟨-, -, haddr⟩ := registerWord_fields x r d
  have hlow : firstByte (registerWord x r d) = d := registerWord_data x r d
  rw [registerCommandDone, controlPair_register s x r d h, State.setRegs_port, State.setPort_port, composedPort, hlow]
  exact ⟨haddr, registerWord_code x r d, rfl, rfl, rfl,
    ((sameOutside_refl _ s).setPort (by decide) _).setRegs (by decide) _⟩

/-- A register command from phase 0 with the register file it leaves. -/
theorem register_command_spec {i : Instr} {x : BitVec 2} {r : BitVec 4} {d : Byte} {regs : RegFile}
    (hi : exec i s = .next (controlPair (registerWord x r d) s)) (h : s.port.ctrlPhase = false)
    (hregs : registerWrite s.cfg r d s.regs = regs) :
    ∃ t, exec i s = .next t ∧ t.regs = regs ∧ registerCommandDone x r d s t :=
  ⟨_, hi, (controlPair_register_regs s x r d h).trans hregs, controlPair_register_done s x r d h⟩

/-- Settles O21: the register command for an index that is an operand. -/
theorem setregWritesTheIndexedRegister : Obligations.SetregWritesTheIndexedRegister :=
  fun s _ _ _ h => register_command_spec s rfl h rfl

/-! ### Mode control -/

/-- Settles O22: the fields of `writeReg0`; the mode's bits are `modeOf_bits`. -/
theorem register0ScattersModeBits : Obligations.Register0ScattersModeBits := by
  intro s x d h
  obtain ⟨t, ht, hregs, hdone⟩ := register_command_spec (i := .reg0 x d) s rfl h rfl
  obtain ⟨hm0, hm1, hm2, hm3⟩ :=
    modeOf_bits (d.getLsbD 2) (s.regs.mode.getLsbD 2) (d.getLsbD 1) (s.regs.mode.getLsbD 0)
  refine ⟨t, ht, ?_⟩
  rw [hregs]
  exact ⟨rfl, hm1, hm3, rfl, rfl, rfl, rfl, rfl, hm0, hm2, rfl, rfl, rfl, rfl, rfl, rfl, rfl, rfl, rfl, rfl, rfl, rfl,
    rfl, hdone⟩

/-- Settles O23: the fields of `writeReg1`; the mode's bits are `modeOf_bits`. -/
theorem register1SetsSizeZoomAndEnables : Obligations.Register1SetsSizeZoomAndEnables := by
  intro s x d h
  obtain ⟨t, ht, hregs, hdone⟩ := register_command_spec (i := .reg1 x d) s rfl h rfl
  obtain ⟨hm0, hm1, hm2, hm3⟩ :=
    modeOf_bits (s.regs.mode.getLsbD 3) (d.getLsbD 3) (s.regs.mode.getLsbD 1) (d.getLsbD 4)
  refine ⟨t, ht, ?_⟩
  rw [hregs]
  exact ⟨rfl, rfl, hm2, hm0, rfl, rfl, hm1, hm3, rfl, rfl, rfl, rfl, rfl, rfl, rfl, rfl, rfl, rfl, rfl, rfl, rfl, rfl,
    rfl, hdone⟩

/-! ### Table bases, backdrop, scroll and reload -/

/-- The low bits of a byte, as the spec's remainder. -/
theorem extract_low_eq_ofNat (d : Byte) (k : Nat) : d.extractLsb' 0 k = BitVec.ofNat k (d.toNat % 2 ^ k) :=
  BitVec.eq_of_toNat_eq (by rw [toNat_extract]; simp)

/-- Settles O24: each base is the low bits of the byte. -/
theorem tableBaseRegistersTakeLowBits : Obligations.TableBaseRegistersTakeLowBits := by
  intro s x d h
  refine ⟨register_command_spec s rfl h ?_, register_command_spec s rfl h rfl, register_command_spec s rfl h ?_,
    register_command_spec s rfl h ?_, register_command_spec s rfl h ?_⟩
  · exact congrArg (fun b => { s.regs with nameTableBase := b }) (extract_low_eq_ofNat d 4)
  · exact congrArg (fun b => { s.regs with patternTableBase := b }) (extract_low_eq_ofNat d 3)
  · exact congrArg (fun b => { s.regs with spriteAttrBase := b }) (extract_low_eq_ofNat d 7)
  · exact congrArg (fun b => { s.regs with spritePatternBase := b }) (extract_low_eq_ofNat d 3)

/-- Settles O25: the backdrop is the low bits of the byte, the scrolls are the byte. -/
theorem backdropAndScrollRegisters : Obligations.BackdropAndScrollRegisters := fun s _ d h =>
  ⟨register_command_spec s rfl h
      (congrArg (fun b => { s.regs with backdropColor := b }) (extract_low_eq_ofNat d 4)),
    register_command_spec s rfl h rfl, register_command_spec s rfl h rfl⟩

/-- Settles O26: register 0xA is the reload value, and a command word's frame keeps the counters. -/
theorem reloadRegisterTakesTheByte : Obligations.ReloadRegisterTakesTheByte := by
  intro s x d h hc
  obtain ⟨t, ht, hregs, hdone⟩ := register_command_spec (i := .regA x d) s rfl h (if_pos hc)
  exact ⟨t, ht, hregs, (exec_frame ht).counters (by simp [touches]), hdone⟩

/-- Settles O27: each of these indices is no register, by `registerWrite_missing`. -/
theorem writesToMissingRegistersAreDiscarded : Obligations.WritesToMissingRegistersAreDiscarded := by
  intro s x d h
  have missing : ∀ r : BitVec 4, 11 ≤ r.toNat → registerWrite s.cfg r d s.regs = s.regs :=
    fun r hr => registerWrite_missing (.inl hr) d s.regs
  exact ⟨fun hc => register_command_spec s rfl h (registerWrite_missing (.inr ⟨rfl, hc⟩) d s.regs),
    register_command_spec s rfl h (missing 11 (by decide)), register_command_spec s rfl h (missing 12 (by decide)),
    register_command_spec s rfl h (missing 13 (by decide)), register_command_spec s rfl h (missing 14 (by decide)),
    register_command_spec s rfl h (missing 15 (by decide))⟩

/-- Settles O28: the sixteen values of the mode. -/
theorem displayHeightOfEveryMode : Obligations.DisplayHeightOfEveryMode := by
  unfold Obligations.DisplayHeightOfEveryMode
  decide

/-! ### The interrupt output -/

/-- The interrupt output is a pending flag whose enable is set (R213). -/
theorem irq_iff :
    s.irq = true ↔ (s.flags.frameIrqPending = true ∧ s.regs.frameIrqEnable = true)
      ∨ (s.flags.lineIrqPending = true ∧ s.regs.lineIrqEnable = true) := by
  simp [State.irq]

/-- Settles O49: a register command keeps the flags, and registers 0 and 1 each set their own enable. -/
theorem interruptOutputFollowsTheEnables : Obligations.InterruptOutputFollowsTheEnables := by
  intro s x d h
  obtain ⟨t, ht, htregs, -⟩ := register_command_spec (i := .reg0 x d) s rfl h rfl
  obtain ⟨u, hu, huregs, -⟩ := register_command_spec (i := .reg1 x d) s rfl h rfl
  have htflags := (exec_frame ht).flags (by simp [touches])
  have huflags := (exec_frame hu).flags (by simp [touches])
  refine ⟨⟨t, ht, htflags, ?_⟩, ⟨u, hu, huflags, ?_⟩⟩
  · rw [irq_iff, htflags, htregs]
    exact Iff.rfl
  · rw [irq_iff, huflags, huregs]
    exact Iff.rfl

/-- Settles O50: with the flags cleared no enable raises the output. -/
theorem statusReadLowersTheInterrupt : Obligations.StatusReadLowersTheInterrupt := by
  intro s
  refine ⟨readStatus s, rfl, ?_, readStatus_ctrlPhase s⟩
  rw [State.irq, readStatus_flags]
  rfl

end Sys2Proof.Machine
end

section
/-!
PROOFS. The counter unit (spec/41_counters.md R140 to R147, R150 to R152) and reset (spec/70_reset_and_hazards.md R240,
R242). Settles O30 to O36, O51, O52.
-/

namespace Sys2Proof.Machine

variable (s : State)

/-! ### The tick -/

/-- Away from the first pixel of a line a tick keeps the flags and the line counter (R140). -/
theorem tick_within_line_fields (h : s.counters.hPixel ≠ 0) :
    (tick s).flags = s.flags ∧ (tick s).counters.lineCounter = s.counters.lineCounter := by
  obtain ⟨-, hline⟩ := advanceRaw_fields s.cfg s.counters
  rw [tick_within_line s h]
  exact ⟨rfl, hline⟩

/-- Settles O30: the tick's raw counters are the advance's, and the rest is `tick_frame`. -/
theorem tickAdvancesTheRawCounters : Obligations.TickAdvancesTheRawCounters := by
  intro s hrange hperiod
  obtain ⟨hpixel, hline⟩ := tick_raw_counters s
  obtain ⟨hpixel', hline'⟩ := advanceRaw_raw s.cfg s.counters hrange hperiod
  obtain ⟨-, -, -, -, -, -, -, -, -, -, hlatch⟩ := tick_fields s
  exact ⟨tick s, rfl, hpixel ▸ hpixel', hline.trans hline', hlatch, tick_within_line_fields s, tick_frame s⟩

/-- The line-counter step of R152 in numbers: the counter, and when it underflows. -/
theorem lineCounterNext_countdown {c : Config} (hc : c.lineCounterModel = .countdown) (counter reload : Byte)
    (v h : Nat) :
    (lineCounterNext c counter reload v h).1.toNat
        = (if v ≤ h then (if counter.toNat = 0 then reload.toNat else counter.toNat - 1) else reload.toNat)
      ∧ ((lineCounterNext c counter reload v h).2 = true ↔ v ≤ h ∧ counter.toNat = 0) := by
  have hzero : counter = 0#8 ↔ counter.toNat = 0 := BitVec.toNat_eq
  unfold lineCounterNext
  rw [hc]
  by_cases hv : v ≤ h
  · by_cases hcounter : counter.toNat = 0
    · simp [hv, hzero, hcounter]
    · have hdec : (counter - 1#8).toNat = counter.toNat - 1 := by bv_omega
      simp [hv, hzero, hcounter, hdec]
  · simp [hv]

/-- The first tick of a line steps the line counter and sets the flags of the line start (R150 to R152). -/
theorem tick_line_start_fields (h : s.counters.hPixel = 0) :
    let n := lineCounterNext s.cfg s.counters.lineCounter s.regs.lineReload s.counters.vLine (vheight s.regs.mode)
    (tick s).counters.lineCounter = n.1
      ∧ (tick s).flags = lineStartFlags s.flags n.2
          (decide (s.counters.vLine = frameIrqLine s.cfg (displayHeight s.regs.mode))) := by
  obtain ⟨-, hline⟩ := advanceRaw_fields s.cfg (lineStart s).counters
  rw [tick_line_start s h]
  exact ⟨hline, rfl⟩

/-- Settles O31: `tick_line_start_fields`, with the line-counter step in numbers. -/
theorem lineStartStepsTheLineCounter : Obligations.LineStartStepsTheLineCounter := by
  intro s h hmodel
  obtain ⟨hcounter, hflags⟩ := tick_line_start_fields s h
  obtain ⟨hnext, hunderflow⟩ := lineCounterNext_countdown hmodel s.counters.lineCounter s.regs.lineReload
    s.counters.vLine (vheight s.regs.mode)
  refine ⟨tick s, rfl, hcounter ▸ hnext, ?_⟩
  simp [hflags, hunderflow]

/-! ### The counter views -/

/-- A byte subtraction is the integer one modulo 256 (R142, D35). -/
theorem ofNat_sub_ofNat_toInt (v k : Nat) :
    ((BitVec.ofNat 8 v - BitVec.ofNat 8 k).toNat : Int) = ((v : Int) - k) % 256 := by
  rw [BitVec.toNat_sub, BitVec.toNat_ofNat, BitVec.toNat_ofNat]
  omega

/-- Settles O32: the view is the raw line, or the byte subtraction of the row's offset, as the threshold says. -/
theorem vCounterReadsTheLogicalScanline : Obligations.VCounterReadsTheLogicalScanline := by
  intro s
  refine ⟨_, vcounterView s, rfl, rfl, (sameOutside_refl _ s).returnByte (by decide) _, ?_⟩
  unfold vcounterView belowThreshold
  cases hrow : (vcountRow s.cfg (displayHeight s.regs.mode)).threshold with
  | none => simp [hrow]
  | some T =>
    by_cases hle : s.counters.vLine ≤ T
    · simp [hrow, hle]
    · simpa [hrow, hle] using ofNat_sub_ofNat_toInt s.counters.vLine _

/-- The rows of the NTSC regions (R145, R146). -/
theorem vcountRow_of_ne_pal {c : Config} (hc : c.region ≠ .pal) :
    vcountRow c .h192 = { threshold := some 218, offset := 6 } ∧ vcountRow c .h224 = c.vcountTable.ntsc224
      ∧ vcountRow c .h240 = c.vcountTable.ntsc240 := by
  cases hr : c.region with
  | ntscJ | ntscU => simp [vcountRow, hr]
  | pal => exact absurd hr hc

/-- The rows of the PAL region (R145). -/
theorem vcountRow_of_pal {c : Config} (hc : c.region = .pal) :
    vcountRow c .h192 = c.vcountTable.pal192 ∧ vcountRow c .h224 = c.vcountTable.pal224
      ∧ vcountRow c .h240 = c.vcountTable.pal240 := by
  simp [vcountRow, hc]

/-- Settles O33: the rows of each region, with the default table's entries. -/
theorem vCounterTableRows : Obligations.VCounterTableRows := by
  refine ⟨fun c h hc => ?_, fun c hc => (vcountRow_of_ne_pal hc).1, fun c htable => ?_⟩
  · cases h <;> simp [vcountRow, hc]
  · by_cases hc : c.region = .pal
    · obtain ⟨h192, h224, h240⟩ := vcountRow_of_pal hc
      simp [hc, h192, h224, h240, htable, defaultVCountTable]
    · obtain ⟨-, h224, h240⟩ := vcountRow_of_ne_pal hc
      simp [hc, h224, h240, htable, defaultVCountTable]

/-- The thresholds of the default table lie at or above the last active line (R147). -/
theorem belowThreshold_of_active {c : Config} (htable : c.vcountTable = defaultVCountTable) {h : DisplayHeight}
    {v : Nat} (hv : v < heightLines h) : belowThreshold (vcountRow c h) v = true := by
  by_cases hc : c.region = .pal
  · obtain ⟨h192, h224, h240⟩ := vcountRow_of_pal hc
    cases h <;> simp [h192, h224, h240, htable, defaultVCountTable, belowThreshold, heightLines] at hv ⊢ <;> omega
  · obtain ⟨h192, h224, h240⟩ := vcountRow_of_ne_pal hc
    cases h <;> simp [h192, h224, h240, htable, defaultVCountTable, belowThreshold, heightLines] at hv ⊢ <;> omega

/-- Every display height is a byte (R48). -/
theorem heightLines_lt (h : DisplayHeight) : heightLines h < 256 := by cases h <;> decide

/-- Settles O34: an active line is below its row's threshold, and fits a byte. -/
theorem activeLinesReadUnchanged : Obligations.ActiveLinesReadUnchanged := by
  intro s htable hv
  refine ⟨_, vcounterView s, rfl, rfl, ?_⟩
  have hlt : s.counters.vLine < 256 := Nat.lt_trans hv (heightLines_lt _)
  rw [vcounterView, if_pos (belowThreshold_of_active htable hv), BitVec.toNat_ofNat, Nat.mod_eq_of_lt hlt]

/-- The H-counter view in numbers, the subtraction in the counter's sixteen bits (R143). -/
theorem hcounterView_toNat :
    (hcounterView s).toNat = (s.counters.hLatchRaw.toNat + 65536 - 94) % 65536 / 4 % 256 := by
  have hlt := s.counters.hLatchRaw.isLt
  rw [hcounterView, BitVec.toNat_setWidth, BitVec.toNat_ushiftRight, Nat.shiftRight_eq_div_pow, BitVec.toNat_sub]
  simp
  omega

/-- Settles O35: a count of sixteen bits less 94 is the integer difference modulo 65536, and 65536 is a multiple of
4 times 256. -/
theorem hCounterReadsTheLatchedCount : Obligations.HCounterReadsTheLatchedCount := by
  intro s
  have hview := hcounterView_toNat s
  refine ⟨_, hcounterView s, rfl, rfl, (sameOutside_refl _ s).returnByte (by decide) _, hview, ?_⟩
  rw [hview, Int.fdiv_eq_ediv_of_nonneg _ (by decide)]
  omega

/-- Settles O36: the latch copies the pixel count, which the next view reads. -/
theorem hLatchCopiesThePixelCount : Obligations.HLatchCopiesThePixelCount := fun s =>
  ⟨_, rfl, rfl, (sameOutside_refl _ s).setCounters (by decide) _, _, _, rfl, rfl, hcounterView_toNat _⟩

/-! ### Reset -/

/-- Settles O51: reset sets each record, and the rest is its frame. -/
theorem resetRestoresTheResetValues : Obligations.ResetRestoresTheResetValues := fun s =>
  ⟨resetStep s, rfl, rfl, rfl, rfl, rfl, rfl, rfl, resetStep_frame s⟩

/-- Settles O52: every value is that of the default parameters. -/
theorem defaultResetState : Obligations.DefaultResetState :=
  ⟨by decide, rfl, rfl, rfl, rfl, rfl, rfl, ⟨_, rfl, rfl⟩, ⟨_, rfl, rfl⟩, ⟨_, rfl, rfl⟩⟩

end Sys2Proof.Machine
end

section
/-!
PROOFS. The sprite stages (spec/42_sprite_evaluation.md, spec/43_sprite_compositing.md): when each is refused, and what
an evaluation selects and a compositing step emits. Settles O38 to O46, O59.
-/

namespace Sys2Proof.Machine

variable (s : State)

/-! ### When a sprite stage is refused -/

/-- The mode without a described sprite engine (R179b). -/
theorem modeRefused_iff :
    modeRefused s = true ↔ s.cfg.spriteEngineScope = .legacyOnly ∧ s.regs.mode.getLsbD 3 = true := by
  simp [modeRefused]

section
variable {s}

theorem modeRefused_of_allModes (h : s.cfg.spriteEngineScope = .allModes) : modeRefused s = false := by
  simp [modeRefused, h]

theorem execEval_of_lt {line : Nat} (h : 255 < line) : execEval line s = .refused .lineOutOfRange := if_pos h

theorem execEval_of_modeRefused {line : Nat} (h : line ≤ 255) (hm : modeRefused s = true) :
    execEval line s = .refused .mode4Sprites := by
  rw [execEval, if_neg (Nat.not_lt.2 h), if_pos hm]

theorem execEval_of_admitted {line : Nat} (h : line ≤ 255) (hm : modeRefused s = false) :
    execEval line s = .next (evaluate line s) := by
  rw [execEval, if_neg (Nat.not_lt.2 h), hm, if_neg Bool.false_ne_true]

theorem execComp_of_ne {x : Byte} {line : Nat} (h : s.evalLine ≠ some line) :
    execComp x line s = .refused .notEvaluated := if_pos h

theorem execComp_of_modeRefused {x : Byte} {line : Nat} (h : s.evalLine = some line) (hm : modeRefused s = true) :
    execComp x line s = .refused .mode4Sprites := by
  rw [execComp, if_neg (not_not_intro h), if_pos hm]

theorem execComp_of_admitted {x : Byte} {line : Nat} (h : s.evalLine = some line) (hm : modeRefused s = false) :
    execComp x line s = .next (composite x line s) := by
  rw [execComp, if_neg (not_not_intro h), hm, if_neg Bool.false_ne_true]

end

/-- Settles O38: one equation of `execEval` for each of the three exclusive cases. -/
theorem evaluationRefusedExactly : Obligations.EvaluationRefusedExactly := by
  intro s line
  rw [← modeRefused_iff]
  show (execEval line s = _ ↔ _) ∧ (execEval line s = _ ↔ _) ∧ ((∃ t, execEval line s = _) ↔ _)
  by_cases hline : 255 < line
  · simp [execEval_of_lt hline, hline]
  · have hle : line ≤ 255 := Nat.le_of_not_lt hline
    cases hm : modeRefused s with
    | true => simp [execEval_of_modeRefused hle hm, hle]
    | false => simp [execEval_of_admitted hle hm, hle]

/-- Settles O43: one equation of `execComp` for each of the three exclusive cases. -/
theorem compositingRefusedExactly : Obligations.CompositingRefusedExactly := by
  intro s x line
  rw [← modeRefused_iff]
  show (execComp x line s = _ ↔ _) ∧ (execComp x line s = _ ↔ _) ∧ ((∃ t, execComp x line s = _) ↔ _)
  by_cases heval : s.evalLine = some line
  · cases hm : modeRefused s with
    | true => simp [execComp_of_modeRefused heval hm, heval]
    | false => simp [execComp_of_admitted heval hm, heval]
  · simp [execComp_of_ne heval, heval]

/-- Settles O59: the scheduler's obligations admit the sprite stages, and the others always complete. -/
theorem scheduledOperationsComplete : Obligations.ScheduledOperationsComplete := by
  intro i s hscope h
  have hm := modeRefused_of_allModes hscope
  cases i with
  | eval line =>
    have hheight : line < vheight s.regs.mode := by simp_all [scheduled]
    exact ⟨_, execEval_of_admitted (Nat.le_of_lt_succ (Nat.lt_trans hheight (heightLines_lt _))) hm⟩
  | comp x line => exact ⟨_, execComp_of_admitted (of_decide_eq_true h) hm⟩
  | _ => exact exec_completes rfl s

/-- Settles O46: the working set is no part of any other operation's frame, so the line stays the one evaluated. -/
theorem workingSetLastsUntilTheNextEvaluation : Obligations.WorkingSetLastsUntilTheNextEvaluation := by
  have hkeep : ∀ i s t, (∀ l, i ≠ .eval l) → i ≠ .reset → exec i s = .next t →
      t.sprites = s.sprites ∧ t.evalLine = s.evalLine := fun i s t heval hreset h =>
    (exec_frame h).sprites fun hmem => (sprites_mem_touches hmem).elim (fun ⟨l, hl⟩ => heval l hl) hreset
  refine ⟨hkeep, fun i s t u line x hfirst heval hreset hsecond hscope => ?_⟩
  obtain ⟨-, -, ht⟩ := execEval_next s hfirst
  obtain ⟨-, hline⟩ := hkeep i t u heval hreset hsecond
  have hcfg : u.cfg = s.cfg := (exec_frame hsecond).cfg.trans (exec_frame hfirst).cfg
  have hlast : t.evalLine = some line := by rw [ht]; rfl
  exact ⟨_, execComp_of_admitted (hline.trans hlast) (modeRefused_of_allModes (hcfg ▸ hscope))⟩

/-! ### The entry of a slot -/

/-- Where a slot's byte stands (R89, R171). -/
theorem slotByte_eq (i k : Nat) :
    slotByte s i k = vramRead s (BitVec.ofNat 14 (s.regs.spriteAttrBase.toNat * 128 + 4 * i + k)) := by
  rw [slotByte]
  congr 1
  apply BitVec.eq_of_toNat_eq
  rw [BitVec.toNat_add, satBase_toNat, BitVec.toNat_ofNat, BitVec.toNat_ofNat]
  omega

/-- The pattern index in numbers: rounded down to a multiple of 4 where the size mode truncates (R175). -/
theorem slotPattern_toNat (c : Config) (r : RegFile) (p : Byte) :
    (slotPattern c r p).toNat
      = if (c.patternTruncOn = .size1 ∧ r.spriteSize = true) ∨ (c.patternTruncOn = .size0 ∧ r.spriteSize = false) then
          p.toNat / 4 * 4
        else p.toNat := by
  have hround : (p.extractLsb' 2 6 ++ 0#2).toNat = p.toNat / 4 * 4 := by
    rw [toNat_append', toNat_extract]
    have := p.isLt
    simp
    omega
  cases ht : c.patternTruncOn <;> cases hs : r.spriteSize <;> simp [slotPattern, truncates, ht, hs, hround]

/-- Bit 7 of a byte in numbers. -/
theorem getLsbD_seven (b : Byte) : b.getLsbD 7 = decide (128 ≤ b.toNat) :=
  (BitVec.msb_eq_getLsbD_last b).symm.trans (BitVec.msb_eq_decide b)

/-- The left edge in numbers: 32 to the left, modulo 256, under early clip (R173, R175). -/
theorem slotEntry_x_toNat (i : Nat) :
    (slotEntry s i).x.toNat
      = if 128 ≤ (slotByte s i 3).toNat then ((slotByte s i 1).toNat + 224) % 256 else (slotByte s i 1).toNat := by
  have hclip : ∀ b : Byte, (b - 32#8).toNat = (b.toNat + 224) % 256 := fun b => by
    rw [BitVec.toNat_sub, Nat.add_comm]
    rfl
  simp only [slotEntry, getLsbD_seven, decide_eq_true_eq, apply_ite BitVec.toNat, hclip]

/-- Settles O39: each field of the entry in the arithmetic of its byte. -/
theorem slotEntryIsTransformed : Obligations.SlotEntryIsTransformed := by
  intro s i _ byte
  have hbyte : ∀ k, (slotByte s i k).toNat = byte k := fun k => congrArg BitVec.toNat (slotByte_eq s i k)
  refine ⟨hbyte 0, ?_, ?_, ?_, ?_⟩
  · rw [← hbyte]
    exact BitVec.toNat_add _ _
  · rw [slotEntry_x_toNat, hbyte, hbyte]
  · rw [← hbyte]
    exact toNat_extract _ 0 4 |>.trans (by simp)
  · rw [← hbyte]
    exact slotPattern_toNat s.cfg s.regs (slotByte s i 2)

/-- Settles O40: visibility is the vertical extent of the slot's entry. -/
theorem slotVisibility : Obligations.SlotVisibility := fun _ _ _ => covers_iff _ _ _ _

/-! ### Evaluation -/

/-- The walk of an evaluation selects the first four visible slots and finds the fifth (R172, R176, R177). -/
theorem walkSlots_visibleSlots (line : Nat) :
    walkSlots s line satSlots 0 [] =
      { selected := ((visibleSlots s line).take 4).map (slotEntry s)
        fifth := (visibleSlots s line)[4]?.map (BitVec.ofNat 5) } := by
  rw [walkSlots_eq s line satSlots 0 [] (Nat.zero_le 4), slotsBeforeTerminator_eq, visibleSlots, activeSlots,
    List.range_eq_range']
  rfl

/-- Settles O41: an evaluation's working set and flags are those of its walk. -/
theorem evaluationSelectsTheFirstFourVisible : Obligations.EvaluationSelectsTheFirstFourVisible := by
  intro s line hline hmode
  have hm : modeRefused s = false := Bool.eq_false_iff.2 (mt (modeRefused_iff s).1 hmode)
  have hwalk := walkSlots_visibleSlots s line
  refine ⟨evaluate line s, execEval_of_admitted hline hm, ?_, rfl, ?_, ?_, rfl, rfl, rfl, evaluate_frame s line⟩
  · show (walkSlots s line satSlots 0 []).selected = _
    rw [hwalk]
  · show (walkSlots s line satSlots 0 []).fifth.isSome = true ↔ _
    simp [hwalk]
  · show (walkSlots s line satSlots 0 []).fifth.getD 0 = _
    rw [hwalk, List.getD_eq_getElem?_getD]
    cases (visibleSlots s line)[4]? <;> rfl

/-- A slot's mark, entry and visibility are determined by its four bytes, the registers and the configuration. -/
theorem sameSlot_of_bytes {s t : State} (hcfg : t.cfg = s.cfg) (hregs : t.regs = s.regs) (line : Nat) {i : Nat}
    (h : ∀ j, j < 4 → slotByte t i j = slotByte s i j) : SameSlot s t line i := by
  have hentry : slotEntry t i = slotEntry s i := by
    simp only [slotEntry, h 0 (by decide), h 1 (by decide), h 2 (by decide), h 3 (by decide), hcfg, hregs]
  refine ⟨h 0 (by decide), hentry, ?_⟩
  simp only [slotVisible, hentry, hcfg, hregs]

/-- Settles O42: the walk depends only on the slots that no terminator comes before, which are those up to `k`. -/
theorem slotsAfterTheTerminatorAreIgnored : Obligations.SlotsAfterTheTerminatorAreIgnored := by
  intro s m k line _ hterm hbytes
  have hwalk : walkSlots { s with vram := m } line satSlots 0 [] = walkSlots s line satSlots 0 [] :=
    walkSlots_congr satSlots 0 [] fun j _ hbefore =>
      have hj : j ≤ k := Nat.le_of_not_lt fun hlt => hbefore k (Nat.zero_le k) hlt hterm
      sameSlot_of_bytes (s := s) (t := { s with vram := m }) rfl rfl line fun n => hbytes j n hj
  have hmode : modeRefused { s with vram := m } = modeRefused s := rfl
  show mapNext _ (execEval line _) = mapNext _ (execEval line s)
  by_cases hline : 255 < line
  · rw [execEval_of_lt hline, execEval_of_lt hline]
  · have hle : line ≤ 255 := Nat.le_of_not_lt hline
    cases hm : modeRefused s with
    | true =>
      rw [execEval_of_modeRefused hle hm, execEval_of_modeRefused hle (hmode.trans hm)]
    | false =>
      rw [execEval_of_admitted hle hm, execEval_of_admitted hle (hmode.trans hm), evaluate, evaluate, hwalk]
      rfl

/-! ### Compositing -/

/-- A shift by the zoom flag halves when it is set (R192). -/
theorem localCoord_eq (r : RegFile) (pos : Nat) (start : Byte) :
    localCoord r pos start = (pos - start.toNat) / if r.spriteZoom then 2 else 1 := by
  cases hz : r.spriteZoom <;> simp [localCoord, hz, Nat.shiftRight_eq_div_pow]

/-- The pattern address in numbers (R192). -/
theorem patternAddress_eq (r : RegFile) (pattern : Byte) (lx ly : Nat) :
    patternAddress r pattern lx ly = BitVec.ofNat 14
      ((r.spritePatternBase.toNat * 2048 + pattern.toNat * 8 + lx / 8 * 16 + ly) % 16384) := by
  apply BitVec.eq_of_toNat_eq
  simp [patternAddress, patternBase_toNat, Nat.shiftLeft_eq, Nat.shiftRight_eq_div_pow]

/-- Bits are counted from the left within a pattern byte (R193). -/
theorem xor_seven (n : Nat) : (n % 8) ^^^ 7 = 7 - n % 8 := by
  have hall : ∀ m < 8, m ^^^ 7 = 7 - m := by decide
  exact hall _ (Nat.mod_lt n (by decide))

/-- Settles O44: the horizontal extent, and the bit of the pattern byte, in numbers. -/
theorem opaquePixelTest : Obligations.OpaquePixelTest := by
  intro s h line o _
  dsimp only
  rw [opaqueAt, Bool.and_eq_true, covers_iff, localCoord_eq, localCoord_eq, patternAddress_eq, xor_seven, and_assoc]

/-- The emitted pixel is the first opaque entry's colour, or transparent when there is none or it is 0 (R195). -/
theorem pixelOf_head? (l : List SpriteEntry) :
    pixelOf (l.head?.map (·.color)) = match l with
      | [] => .transparent
      | o :: _ => if o.color = 0 then .transparent else .color o.color := by
  cases l <;> rfl

/-- Settles O45: a compositing step's flag and output are those of its scan, which `scanPixel_none` computes. -/
theorem compositingEmitsFirstOpaqueAndDetectsCollision :
    Obligations.CompositingEmitsFirstOpaqueAndDetectsCollision := by
  intro s x line heval hmode
  have hm : modeRefused s = false := Bool.eq_false_iff.2 (mt (modeRefused_iff s).1 hmode)
  have hscan := scanPixel_none s x line s.sprites
  refine ⟨composite x line s, execComp_of_admitted heval hm, ?_, ?_, rfl, rfl, rfl, rfl, composite_frame s x line⟩
  · show (s.flags.spriteCollision || (scanPixel s x line s.sprites none).2) = true ↔ _
    rw [hscan, Bool.or_eq_true, decide_eq_true_eq]
    rfl
  · show some (pixelOf (scanPixel s x line s.sprites none).1) = _
    rw [hscan]
    exact congrArg some (pixelOf_head? (opaqueEntries s x line))

end Sys2Proof.Machine
end
